-- ==== Sys2Proof/Word.lean ====
section
/-! DEFINITION. The word types of the BFE (spec/00_scope.md R9, R13): bytes, 16-bit halves and byte strings. -/

namespace Sys2Proof

/-- An 8-bit unsigned byte, bit 0 its least significant (R12). -/
abbrev Byte := BitVec 8

/-- A 16-bit unsigned value: a checksum, a fragment count, a capacity, a timer (R9, R11). -/
abbrev Half := BitVec 16

/-- A byte string `B`: a finite sequence of bytes, byte 0 first (R13). -/
abbrev Bytes := List Byte

end Sys2Proof
end

