-- ==== Sys2Proof/Config.lean ====
section
/-! DEFINITION. What spec/00_scope.md R10 and R11 fix or leave open: the parameters, the open values (opaque, no body)
and the constants; and the names of spec/44_delivery.md R272, whose numbers are open. -/

namespace Sys2Proof

/-- `ACK_POLICY` (R10): which inbound Data traffic the block acknowledges (R240). -/
inductive AckPolicy where
  | perFrame
  | perDelivery
deriving DecidableEq, Repr

/-- `RX_SEQ_UPDATE` (R10): how the expected inbound sequence moves on (R213). -/
inductive RxSeqUpdate where
  | increment
  | resync
deriving DecidableEq, Repr

/-- The names of SOFTAP_AUTH_MODE (R272): OPEN, WEP, WPA_PSK, WPA2_PSK, WPA_WPA2_PSK, in the source's order. -/
inductive AuthMode where
  | openNetwork
  | wep
  | wpaPsk
  | wpa2Psk
  | wpaWpa2Psk
deriving DecidableEq, Repr

namespace Config

/-- The type of the parameter `CRC16`: a total function of a 16-bit seed and a byte string (R155). -/
abbrev Crc := Half → Bytes → Half

/-- `CRC16` (R10, R155): OPEN in the spec, so it has no body here (DESIGN CHOICE, log entry 1). -/
opaque crc16 : Crc

/-- The laws of R155 that a value of `CRC16` obeys. Laws 1 and 2 (deterministic, 16-bit) hold by its type. -/
structure CrcLaws (crc : Crc) : Prop where
  /-- Law 3: incremental. -/
  incremental : ∀ (s : Half) (a b : Bytes), crc (crc s a) b = crc s (a ++ b)
  /-- Law 4: every single-byte change is detected. -/
  detects : ∀ (s : Half) (a b : Bytes) (x y : Byte), x ≠ y → crc s (a ++ x :: b) ≠ crc s (a ++ y :: b)

/-- One less than the `ACKQ_DEPTH` of the machine that leaves reset: OPEN (R10), any natural number (DESIGN CHOICE, log entry 2). -/
opaque ackqSpare : Nat

/-- `ACKQ_DEPTH` of the machine that leaves reset: an integer that is at least 1 (R10). -/
def ackqDepth : Nat := ackqSpare + 1

/-- One less than the `DEFAULT_ACK_TIMEOUT` of the machine that leaves reset: OPEN (R10, DESIGN CHOICE, log entry 2). -/
opaque timeoutIndex : Fin 65535

/-- `DEFAULT_ACK_TIMEOUT` of the machine that leaves reset: 1 to 65535 ticks (R10, R238). -/
def defaultAckTimeout : Half := BitVec.ofNat 16 (timeoutIndex.val + 1)

/-- `TICK_PERIOD` (R10): OPEN; no rule reads it (R396), so no definition of the model does (DESIGN CHOICE, log entry 3). -/
opaque tickPeriod : Nat

/-- Byte 26 of the QUERY snapshot when ACKQ holds more entries than a byte counts (256 or more, possible only when
`ACKQ_DEPTH` is): the spec gives no value there, so it is free (R137, DESIGN CHOICE, log entry 4). -/
opaque ackqCountByte : Nat → Byte

/-- The number of each SOFTAP_AUTH_MODE: the source names the five modes in order and gives no numbers (R272), so they have
no body here (DESIGN CHOICE, log entry 21). -/
opaque authModeCode : AuthMode → Byte

/-- The size of TX_BUF and of RA_BUF in bytes (R11, R44, R50). -/
def bufferSize : Nat := 65535

/-- `MAX_PAYLOAD` (R11): the longest payload of a SEND, and the longest a 16-bit length names. -/
def maxPayload : Nat := 65535

/-- The longest frame payload, the ceiling of the 8-bit length field (R9). -/
def maxFramePayload : Nat := 255

/-- The least capacity READY accepts (R11). -/
def minCap : Half := 3

end Config

end Sys2Proof
end

