-- ==== Sys2Proof/Syntax.lean ====
section
/-! DEFINITION. What the BFE reads and emits, as terms: one constructor of `Instr` per row of spec/opcode_table.json
(wire frames, input transactions, output events), and the names the spec gives codes, classes and flags. -/

namespace Sys2Proof

/-- The two frame classes (R103). A class field of 2 or 3 is reserved and is no value of this type (R162). -/
inductive FrameClass where
  | control
  | data
deriving DecidableEq, Repr

/-- The causes of a fatal error (spec/60_exceptions.md R331). -/
inductive FatalCode where
  | encrypted
  | checksumMismatch
  | sequenceViolation
  | fragmentOverflow
  | truncatedFrame
  | lengthMismatch
  | reservedClass
  | fragmentTooShort
  | controlFragmented
  | malformedAck
deriving DecidableEq, Repr

/-- The statuses of a CMD_DONE (R138). -/
inductive Status where
  | ok
  | ackTimeout
  | transportError
  | notReady
  | illegalCommand
  | closed
  | sessionFatal
  | busy
deriving DecidableEq, Repr

/-- The codes of a LOG (R139). -/
inductive LogCode where
  | unknownAck
  | rxIgnored
  | spuriousWriteDone
  | ackWriteFailed
deriving DecidableEq, Repr

/-- A frame value F of R150. The length field is `payload.length`; the checksum is recomputed, not stored. -/
structure Frame where
  cls : FrameClass
  subtype : BitVec 6
  flags : Byte
  seq : Byte
  payload : Bytes
deriving DecidableEq, Repr

/-- A delivered message M of R260. -/
structure Message where
  cls : FrameClass
  subtype : BitVec 6
  seq : Byte
  flags : Byte
  payload : Bytes
deriving DecidableEq, Repr

/-- What follows byte 0 of a wire frame (R100): control flags, sequence, payload (whose length is byte 3) and the
transmitted checksum, present exactly when flag bit 1 is set. -/
structure FrameTail where
  flags : Byte
  seq : Byte
  payload : Bytes
  checksum : Option Half
deriving DecidableEq, Repr

/-- A wire frame as its fields, class and subtype still as the bits of byte 0 (R101). -/
structure FrameParts where
  cls : BitVec 2
  subtype : BitVec 6
  tail : FrameTail
deriving DecidableEq, Repr

/-- The operands of READY (R121): the capacity, or the bytes after the tag where their number is not 2 (R291). -/
inductive ReadyArgs where
  | capacity (cap : Half)
  | badLength (rest : Bytes)
deriving DecidableEq, Repr

/-- The operands of SEND (R122), the length field being the payload's own length, or the bytes after the tag where
they are not of that form (R291). -/
inductive SendArgs where
  | message (b0 opts : Byte) (timeout : Half) (payload : Bytes)
  | badLength (rest : Bytes)
deriving DecidableEq, Repr

/-- CLOSE and QUERY take no operand (R123, R124); any byte after the tag makes the length wrong (R291). -/
inductive NoArgs where
  | exact
  | badLength (rest : Bytes)
deriving DecidableEq, Repr

/-- The three formats of spec/opcode_table.json. Their first bytes overlap: a byte string is read in one format. -/
inductive Format where
  /-- A wire frame, inside an RX_NOTIFY or a TX_WRITE (R100). -/
  | frame
  /-- An input transaction, first byte its tag (R120). -/
  | input
  /-- An output event, first byte its tag (R130). -/
  | output
deriving DecidableEq, Repr

/-- The instructions of the BFE (R2): one constructor per row of spec/opcode_table.json, in the table's order. -/
inductive Instr where
  -- wire frames: Control subtypes (R107)
  | ctrlAck (t : FrameTail)
  | ctrlSetSecurityMode (t : FrameTail)
  | ctrlSetOpMode (t : FrameTail)
  | ctrlConnectWifi (t : FrameTail)
  | ctrlDisconnectWifi (t : FrameTail)
  | ctrlGetWifiStatus (t : FrameTail)
  | ctrlDeauthenticate (t : FrameTail)
  | ctrlGetVersion (t : FrameTail)
  | ctrlCloseConnection (t : FrameTail)
  | ctrlGetWifiList (t : FrameTail)
  | ctrlOther (subtype : BitVec 6) (t : FrameTail)
  -- wire frames: Data subtypes (R108)
  | dataSoftapMaxConnectionCount (t : FrameTail)
  | dataSoftapAuthMode (t : FrameTail)
  | dataSoftapChannel (t : FrameTail)
  | dataWifiConnectionState (t : FrameTail)
  | dataVersion (t : FrameTail)
  | dataWifiList (t : FrameTail)
  | dataError (t : FrameTail)
  | dataCustomData (t : FrameTail)
  | dataOther (subtype : BitVec 6) (t : FrameTail)
  -- wire frames: classes 2 and 3 (R103), `low` the class's bit 0
  | reservedClass (low : BitVec 1) (subtype : BitVec 6) (t : FrameTail)
  -- input transactions: host commands (R121-R124)
  | ready (a : ReadyArgs)
  | send (a : SendArgs)
  | close (a : NoArgs)
  | query (a : NoArgs)
  -- input transactions: unassigned CMD tags (R125), `low` the bits of the tag the row leaves open
  | cmdIllegal00 (rest : Bytes)
  | cmdIllegal05 (rest : Bytes)
  | cmdIllegal06 (low : BitVec 1) (rest : Bytes)
  | cmdIllegal08 (low : BitVec 3) (rest : Bytes)
  | cmdIllegal10 (low : BitVec 4) (rest : Bytes)
  | cmdIllegal20 (low : BitVec 5) (rest : Bytes)
  | cmdIllegal40 (low : BitVec 6) (rest : Bytes)
  -- input transactions: transport and timebase events (R126-R129)
  | rxNotify (bytes : Bytes)
  | writeDone (st : Byte)
  | tick
  | linkDown
  -- input transactions: reserved tags (R129), `low` the bits of the tag the row leaves open
  | inputReserved84 (low : BitVec 2) (rest : Bytes)
  | inputReserved88 (low : BitVec 3) (rest : Bytes)
  | inputReserved90 (low : BitVec 4) (rest : Bytes)
  | inputReservedA0 (low : BitVec 5) (rest : Bytes)
  | inputReservedC0 (low : BitVec 6) (rest : Bytes)
  -- output events (R131-R137)
  | txWrite (frame : Bytes)
  | cmdDone (op status detail : Byte)
  | deliver (b0 seq flags : Byte) (payload : Bytes)
  | log (code arg : Byte)
  | fatal (code : Byte)
  | release
  | queryResp (snapshot : Bytes)
deriving DecidableEq, Repr

/-- The format of an instruction's row. -/
def Instr.format : Instr → Format
  | .ctrlAck _ => .frame
  | .ctrlSetSecurityMode _ => .frame
  | .ctrlSetOpMode _ => .frame
  | .ctrlConnectWifi _ => .frame
  | .ctrlDisconnectWifi _ => .frame
  | .ctrlGetWifiStatus _ => .frame
  | .ctrlDeauthenticate _ => .frame
  | .ctrlGetVersion _ => .frame
  | .ctrlCloseConnection _ => .frame
  | .ctrlGetWifiList _ => .frame
  | .ctrlOther _ _ => .frame
  | .dataSoftapMaxConnectionCount _ => .frame
  | .dataSoftapAuthMode _ => .frame
  | .dataSoftapChannel _ => .frame
  | .dataWifiConnectionState _ => .frame
  | .dataVersion _ => .frame
  | .dataWifiList _ => .frame
  | .dataError _ => .frame
  | .dataCustomData _ => .frame
  | .dataOther _ _ => .frame
  | .reservedClass _ _ _ => .frame
  | .ready _ => .input
  | .send _ => .input
  | .close _ => .input
  | .query _ => .input
  | .cmdIllegal00 _ => .input
  | .cmdIllegal05 _ => .input
  | .cmdIllegal06 _ _ => .input
  | .cmdIllegal08 _ _ => .input
  | .cmdIllegal10 _ _ => .input
  | .cmdIllegal20 _ _ => .input
  | .cmdIllegal40 _ _ => .input
  | .rxNotify _ => .input
  | .writeDone _ => .input
  | .tick => .input
  | .linkDown => .input
  | .inputReserved84 _ _ => .input
  | .inputReserved88 _ _ => .input
  | .inputReserved90 _ _ => .input
  | .inputReservedA0 _ _ => .input
  | .inputReservedC0 _ _ => .input
  | .txWrite _ => .output
  | .cmdDone _ _ _ => .output
  | .deliver _ _ _ _ => .output
  | .log _ _ => .output
  | .fatal _ => .output
  | .release => .output
  | .queryResp _ => .output

end Sys2Proof
end

