-- ==== Sys2Proof/WellFormed.lean ====
section
/-! DEFINITION. Which terms of `Instr` are the reading of some bytes: the ranges the encodings of spec/30_encoding.md
give each operand. Every check is a Bool. -/

namespace Sys2Proof

/-- The tail of a wire frame is well formed: N fits a byte (R105) and the checksum is there exactly when flag bit 1
is set (R100). -/
def FrameTail.wf (t : FrameTail) : Bool :=
  decide (t.payload.length ≤ Config.maxFramePayload) && (t.checksum.isSome == t.flags.getLsbD 1)

/-- A byte string of the length its own bytes 1 and 3 give: `4 + N + 2*CS` (R110). -/
def frameShaped : Bytes → Bool
  | _ :: flags :: _ :: n :: rest => rest.length == n.toNat + (if flags.getLsbD 1 then 2 else 0)
  | _ => false

/-- The bytes after SEND's tag have the shape of R122: six bytes of operands, then exactly L bytes of payload. -/
def sendShaped : Bytes → Bool
  | _ :: _ :: _ :: _ :: l0 :: l1 :: payload => payload.length == l0.toNat + 256 * l1.toNat
  | _ => false

/-- READY's operands: a capacity, or a number of bytes that is not 2 (R121). -/
def ReadyArgs.wf : ReadyArgs → Bool
  | .capacity _ => true
  | .badLength rest => !(rest.length == 2)

/-- SEND's operands: a payload that the 16-bit L counts, or bytes of another shape (R122). -/
def SendArgs.wf : SendArgs → Bool
  | .message _ _ _ payload => decide (payload.length ≤ Config.maxPayload)
  | .badLength rest => !sendShaped rest

/-- CLOSE's and QUERY's operands: none, or at least one byte too many (R123, R124). -/
def NoArgs.wf : NoArgs → Bool
  | .exact => true
  | .badLength rest => !rest.isEmpty

/-- A Control subtype without a row of its own: 10 to 63 (R107). -/
def ctrlUnnamed (subtype : BitVec 6) : Bool := decide (10 ≤ subtype.toNat)

/-- A Data subtype without a row of its own: none of 6, 7, 8 and 15 to 19 (R108). -/
def dataUnnamed (subtype : BitVec 6) : Bool :=
  !(decide (6 ≤ subtype.toNat ∧ subtype.toNat ≤ 8) || decide (15 ≤ subtype.toNat ∧ subtype.toNat ≤ 19))

/-- The well-formed instructions: those that some byte string of their format encodes. -/
def Instr.wf : Instr → Bool
  | .ctrlAck t => t.wf
  | .ctrlSetSecurityMode t => t.wf
  | .ctrlSetOpMode t => t.wf
  | .ctrlConnectWifi t => t.wf
  | .ctrlDisconnectWifi t => t.wf
  | .ctrlGetWifiStatus t => t.wf
  | .ctrlDeauthenticate t => t.wf
  | .ctrlGetVersion t => t.wf
  | .ctrlCloseConnection t => t.wf
  | .ctrlGetWifiList t => t.wf
  | .ctrlOther subtype t => ctrlUnnamed subtype && t.wf
  | .dataSoftapMaxConnectionCount t => t.wf
  | .dataSoftapAuthMode t => t.wf
  | .dataSoftapChannel t => t.wf
  | .dataWifiConnectionState t => t.wf
  | .dataVersion t => t.wf
  | .dataWifiList t => t.wf
  | .dataError t => t.wf
  | .dataCustomData t => t.wf
  | .dataOther subtype t => dataUnnamed subtype && t.wf
  | .reservedClass _ _ t => t.wf
  | .ready a => a.wf
  | .send a => a.wf
  | .close a => a.wf
  | .query a => a.wf
  | .cmdIllegal00 _ => true
  | .cmdIllegal05 _ => true
  | .cmdIllegal06 _ _ => true
  | .cmdIllegal08 _ _ => true
  | .cmdIllegal10 _ _ => true
  | .cmdIllegal20 _ _ => true
  | .cmdIllegal40 _ _ => true
  | .rxNotify _ => true
  | .writeDone _ => true
  | .tick => true
  | .linkDown => true
  | .inputReserved84 _ _ => true
  | .inputReserved88 _ _ => true
  | .inputReserved90 _ _ => true
  | .inputReservedA0 _ _ => true
  | .inputReservedC0 _ _ => true
  | .txWrite frame => frameShaped frame
  | .cmdDone _ _ _ => true
  | .deliver _ _ _ payload => decide (payload.length ≤ Config.maxPayload)
  | .log _ _ => true
  | .fatal _ => true
  | .release => true
  | .queryResp snapshot => snapshot.length == 26

end Sys2Proof
end

