-- ==== Sys2Proof/Decode.lean ====
section
/-! DEFINITION. The decoder, total on any bytes and rejecting by name, for each of the three formats; the encoder; the
reading of one opcode-table word. Byte order: little-endian (R80, R81); bit 0 least significant (R12). -/

namespace Sys2Proof

/-! ## Bit fields and byte order -/

/-- `LE16(v)`: the low byte first (R13). -/
def le16 (v : Half) : Bytes := [v.extractLsb' 0 8, v.extractLsb' 8 8]

/-- The 16-bit value of two bytes, the low one first: `rdLE16` of R13. -/
def rd16 (lo hi : Byte) : Half := (hi ++ lo : BitVec (8 + 8))

/-- `class | subtype << 2` (R101). -/
def packByte0 (cls : BitVec 2) (subtype : BitVec 6) : Byte := (subtype ++ cls : BitVec (6 + 2))

/-- `byte0[1:0]` (R101). -/
def classField (b0 : Byte) : BitVec 2 := b0.extractLsb' 0 2

/-- `byte0[7:2]` (R101). -/
def subtypeField (b0 : Byte) : BitVec 6 := b0.extractLsb' 2 6

/-- The class field of a class (R103): Control = 0, Data = 1. -/
def FrameClass.code : FrameClass → BitVec 2
  | .control => 0
  | .data => 1

/-- Why bytes are no instruction of a format. -/
inductive Reject where
  /-- No byte at all: a transaction or event has a tag in byte 0 (R120, R130). -/
  | empty
  /-- A WRITE_DONE, TICK or LINK_DOWN of the wrong length (R129). -/
  | malformedEvent (tag : Byte)
  /-- The bytes are no wire frame: too short, or not of the length bytes 1 and 3 give (R161). -/
  | notAFrame (code : FatalCode)
  /-- The bytes are no output event: no tag of R130, or not of the length the tag requires. -/
  | notAnEvent (tag : Byte)
deriving DecidableEq, Repr

/-! ## Wire frames -/

/-- The transmitted checksum of a frame with flag bit 1 set: its last two bytes, low byte first (R106). -/
def readChecksum (cs : Bool) (after : Bytes) : Option Half :=
  match cs, after with
  | true, [lo, hi] => some (rd16 lo hi)
  | _, _ => none

/-- The fields of a wire frame (R100, R110), or the length error of R161. -/
def splitFrame : Bytes → Except FatalCode FrameParts
  | b0 :: flags :: seq :: n :: rest =>
    if rest.length = n.toNat + (if flags.getLsbD 1 then 2 else 0) then
      .ok { cls := classField b0
            subtype := subtypeField b0
            tail := { flags := flags
                      seq := seq
                      payload := rest.take n.toNat
                      checksum := readChecksum (flags.getLsbD 1) (rest.drop n.toNat) } }
    else .error .lengthMismatch
  | _ => .error .truncatedFrame

/-- The bytes of a wire frame (R100). -/
def FrameParts.bytes (p : FrameParts) : Bytes :=
  packByte0 p.cls p.subtype :: p.tail.flags :: p.tail.seq :: BitVec.ofNat 8 p.tail.payload.length ::
    (p.tail.payload ++ (p.tail.checksum.map le16).getD [])

/-- The row of spec/opcode_table.json a wire frame belongs to; the named rows come before the OTHER rows (R107, R108). -/
def frameInstr (p : FrameParts) : Instr :=
  match p.cls.toNat, p.subtype.toNat with
  | 0, 0 => .ctrlAck p.tail
  | 0, 1 => .ctrlSetSecurityMode p.tail
  | 0, 2 => .ctrlSetOpMode p.tail
  | 0, 3 => .ctrlConnectWifi p.tail
  | 0, 4 => .ctrlDisconnectWifi p.tail
  | 0, 5 => .ctrlGetWifiStatus p.tail
  | 0, 6 => .ctrlDeauthenticate p.tail
  | 0, 7 => .ctrlGetVersion p.tail
  | 0, 8 => .ctrlCloseConnection p.tail
  | 0, 9 => .ctrlGetWifiList p.tail
  | 0, _ => .ctrlOther p.subtype p.tail
  | 1, 6 => .dataSoftapMaxConnectionCount p.tail
  | 1, 7 => .dataSoftapAuthMode p.tail
  | 1, 8 => .dataSoftapChannel p.tail
  | 1, 15 => .dataWifiConnectionState p.tail
  | 1, 16 => .dataVersion p.tail
  | 1, 17 => .dataWifiList p.tail
  | 1, 18 => .dataError p.tail
  | 1, 19 => .dataCustomData p.tail
  | 1, _ => .dataOther p.subtype p.tail
  | _, _ => .reservedClass (p.cls.extractLsb' 0 1) p.subtype p.tail

/-- The fields of the wire frame that a frame row's instruction stands for (R107, R108, R103). -/
def Instr.frameParts : Instr → Option FrameParts
  | .ctrlAck t => some ⟨0, 0, t⟩
  | .ctrlSetSecurityMode t => some ⟨0, 1, t⟩
  | .ctrlSetOpMode t => some ⟨0, 2, t⟩
  | .ctrlConnectWifi t => some ⟨0, 3, t⟩
  | .ctrlDisconnectWifi t => some ⟨0, 4, t⟩
  | .ctrlGetWifiStatus t => some ⟨0, 5, t⟩
  | .ctrlDeauthenticate t => some ⟨0, 6, t⟩
  | .ctrlGetVersion t => some ⟨0, 7, t⟩
  | .ctrlCloseConnection t => some ⟨0, 8, t⟩
  | .ctrlGetWifiList t => some ⟨0, 9, t⟩
  | .ctrlOther subtype t => some ⟨0, subtype, t⟩
  | .dataSoftapMaxConnectionCount t => some ⟨1, 6, t⟩
  | .dataSoftapAuthMode t => some ⟨1, 7, t⟩
  | .dataSoftapChannel t => some ⟨1, 8, t⟩
  | .dataWifiConnectionState t => some ⟨1, 15, t⟩
  | .dataVersion t => some ⟨1, 16, t⟩
  | .dataWifiList t => some ⟨1, 17, t⟩
  | .dataError t => some ⟨1, 18, t⟩
  | .dataCustomData t => some ⟨1, 19, t⟩
  | .dataOther subtype t => some ⟨1, subtype, t⟩
  | .reservedClass low subtype t => some ⟨((1 : BitVec 1) ++ low : BitVec (1 + 1)), subtype, t⟩
  | .ready _ => none
  | .send _ => none
  | .close _ => none
  | .query _ => none
  | .cmdIllegal00 _ => none
  | .cmdIllegal05 _ => none
  | .cmdIllegal06 _ _ => none
  | .cmdIllegal08 _ _ => none
  | .cmdIllegal10 _ _ => none
  | .cmdIllegal20 _ _ => none
  | .cmdIllegal40 _ _ => none
  | .rxNotify _ => none
  | .writeDone _ => none
  | .tick => none
  | .linkDown => none
  | .inputReserved84 _ _ => none
  | .inputReserved88 _ _ => none
  | .inputReserved90 _ _ => none
  | .inputReservedA0 _ _ => none
  | .inputReservedC0 _ _ => none
  | .txWrite _ => none
  | .cmdDone _ _ _ => none
  | .deliver _ _ _ _ => none
  | .log _ _ => none
  | .fatal _ => none
  | .release => none
  | .queryResp _ => none

/-- The instruction of a wire frame, or the length error of R161. -/
def decodeFrame (b : Bytes) : Except Reject Instr :=
  match splitFrame b with
  | .ok p => .ok (frameInstr p)
  | .error c => .error (.notAFrame c)

/-! ## Input transactions -/

/-- READY's operands from the bytes after the tag (R121). -/
def readyArgs : Bytes → ReadyArgs
  | [lo, hi] => .capacity (rd16 lo hi)
  | rest => .badLength rest

/-- SEND's operands from the bytes after the tag (R122). -/
def sendArgs : Bytes → SendArgs
  | b0 :: opts :: t0 :: t1 :: l0 :: l1 :: payload =>
    if payload.length = (rd16 l0 l1).toNat then .message b0 opts (rd16 t0 t1) payload
    else .badLength (b0 :: opts :: t0 :: t1 :: l0 :: l1 :: payload)
  | rest => .badLength rest

/-- CLOSE's and QUERY's operands from the bytes after the tag (R123, R124). -/
def noArgs : Bytes → NoArgs
  | [] => .exact
  | rest => .badLength rest

/-- The instruction of an input transaction (R120, R290). -/
def decodeInput : Bytes → Except Reject Instr
  | [] => .error .empty
  | tag :: rest =>
    if tag = 0x00 then .ok (.cmdIllegal00 rest)
    else if tag = 0x01 then .ok (.ready (readyArgs rest))
    else if tag = 0x02 then .ok (.send (sendArgs rest))
    else if tag = 0x03 then .ok (.close (noArgs rest))
    else if tag = 0x04 then .ok (.query (noArgs rest))
    else if tag = 0x05 then .ok (.cmdIllegal05 rest)
    else if tag.extractLsb' 1 7 = 0x03 then .ok (.cmdIllegal06 (tag.extractLsb' 0 1) rest)
    else if tag.extractLsb' 3 5 = 0x01 then .ok (.cmdIllegal08 (tag.extractLsb' 0 3) rest)
    else if tag.extractLsb' 4 4 = 0x1 then .ok (.cmdIllegal10 (tag.extractLsb' 0 4) rest)
    else if tag.extractLsb' 5 3 = 0x1 then .ok (.cmdIllegal20 (tag.extractLsb' 0 5) rest)
    else if tag.extractLsb' 6 2 = 0x1 then .ok (.cmdIllegal40 (tag.extractLsb' 0 6) rest)
    else if tag = 0x80 then .ok (.rxNotify rest)
    else if tag = 0x81 then
      match rest with
      | [st] => .ok (.writeDone st)
      | _ => .error (.malformedEvent tag)
    else if tag = 0x82 then (if rest.isEmpty then .ok .tick else .error (.malformedEvent tag))
    else if tag = 0x83 then (if rest.isEmpty then .ok .linkDown else .error (.malformedEvent tag))
    else if tag.extractLsb' 2 6 = 0x21 then .ok (.inputReserved84 (tag.extractLsb' 0 2) rest)
    else if tag.extractLsb' 3 5 = 0x11 then .ok (.inputReserved88 (tag.extractLsb' 0 3) rest)
    else if tag.extractLsb' 4 4 = 0x9 then .ok (.inputReserved90 (tag.extractLsb' 0 4) rest)
    else if tag.extractLsb' 5 3 = 0x5 then .ok (.inputReservedA0 (tag.extractLsb' 0 5) rest)
    else .ok (.inputReservedC0 (tag.extractLsb' 0 6) rest)

/-! ## Output events -/

/-- The instruction of an output event (R130-R137). -/
def decodeOutput : Bytes → Except Reject Instr
  | [] => .error .empty
  | tag :: rest =>
    if tag = 0xC0 then (if frameShaped rest then .ok (.txWrite rest) else .error (.notAnEvent tag))
    else if tag = 0xC1 then
      match rest with
      | [op, status, detail] => .ok (.cmdDone op status detail)
      | _ => .error (.notAnEvent tag)
    else if tag = 0xC2 then
      match rest with
      | b0 :: seq :: flags :: l0 :: l1 :: payload =>
        if payload.length = (rd16 l0 l1).toNat then .ok (.deliver b0 seq flags payload)
        else .error (.notAnEvent tag)
      | _ => .error (.notAnEvent tag)
    else if tag = 0xC3 then
      match rest with
      | [code, arg] => .ok (.log code arg)
      | _ => .error (.notAnEvent tag)
    else if tag = 0xC4 then
      match rest with
      | [code] => .ok (.fatal code)
      | _ => .error (.notAnEvent tag)
    else if tag = 0xC5 then (if rest.isEmpty then .ok .release else .error (.notAnEvent tag))
    else if tag = 0xC6 then (if rest.length = 26 then .ok (.queryResp rest) else .error (.notAnEvent tag))
    else .error (.notAnEvent tag)

/-- The decoder: the instruction that bytes are in a format, or why they are none. -/
def decode : Format → Bytes → Except Reject Instr
  | .frame, b => decodeFrame b
  | .input, b => decodeInput b
  | .output, b => decodeOutput b

/-! ## The encoder -/

/-- A tag whose high bits `high` a row fixes and whose low bits it leaves open. -/
def openTag {h l : Nat} (high : BitVec h) (low : BitVec l) : Byte :=
  (high ++ low).setWidth 8

/-- READY's bytes after the tag (R121). -/
def ReadyArgs.bytes : ReadyArgs → Bytes
  | .capacity cap => le16 cap
  | .badLength rest => rest

/-- SEND's bytes after the tag (R122). -/
def SendArgs.bytes : SendArgs → Bytes
  | .message b0 opts timeout payload => b0 :: opts :: (le16 timeout ++ le16 (BitVec.ofNat 16 payload.length) ++ payload)
  | .badLength rest => rest

/-- CLOSE's and QUERY's bytes after the tag (R123, R124). -/
def NoArgs.bytes : NoArgs → Bytes
  | .exact => []
  | .badLength rest => rest

/-- The bytes of a frame row's instruction; the others have none here. -/
def frameRowBytes (i : Instr) : Bytes := (i.frameParts.map FrameParts.bytes).getD []

/-- The encoder: the bytes of an instruction in its own format (R100, R121-R129, R131-R137). -/
def encode : Instr → Bytes
  | .ctrlAck t => frameRowBytes (.ctrlAck t)
  | .ctrlSetSecurityMode t => frameRowBytes (.ctrlSetSecurityMode t)
  | .ctrlSetOpMode t => frameRowBytes (.ctrlSetOpMode t)
  | .ctrlConnectWifi t => frameRowBytes (.ctrlConnectWifi t)
  | .ctrlDisconnectWifi t => frameRowBytes (.ctrlDisconnectWifi t)
  | .ctrlGetWifiStatus t => frameRowBytes (.ctrlGetWifiStatus t)
  | .ctrlDeauthenticate t => frameRowBytes (.ctrlDeauthenticate t)
  | .ctrlGetVersion t => frameRowBytes (.ctrlGetVersion t)
  | .ctrlCloseConnection t => frameRowBytes (.ctrlCloseConnection t)
  | .ctrlGetWifiList t => frameRowBytes (.ctrlGetWifiList t)
  | .ctrlOther subtype t => frameRowBytes (.ctrlOther subtype t)
  | .dataSoftapMaxConnectionCount t => frameRowBytes (.dataSoftapMaxConnectionCount t)
  | .dataSoftapAuthMode t => frameRowBytes (.dataSoftapAuthMode t)
  | .dataSoftapChannel t => frameRowBytes (.dataSoftapChannel t)
  | .dataWifiConnectionState t => frameRowBytes (.dataWifiConnectionState t)
  | .dataVersion t => frameRowBytes (.dataVersion t)
  | .dataWifiList t => frameRowBytes (.dataWifiList t)
  | .dataError t => frameRowBytes (.dataError t)
  | .dataCustomData t => frameRowBytes (.dataCustomData t)
  | .dataOther subtype t => frameRowBytes (.dataOther subtype t)
  | .reservedClass low subtype t => frameRowBytes (.reservedClass low subtype t)
  | .ready a => 0x01 :: a.bytes
  | .send a => 0x02 :: a.bytes
  | .close a => 0x03 :: a.bytes
  | .query a => 0x04 :: a.bytes
  | .cmdIllegal00 rest => 0x00 :: rest
  | .cmdIllegal05 rest => 0x05 :: rest
  | .cmdIllegal06 low rest => openTag (0x03 : BitVec 7) low :: rest
  | .cmdIllegal08 low rest => openTag (0x01 : BitVec 5) low :: rest
  | .cmdIllegal10 low rest => openTag (0x1 : BitVec 4) low :: rest
  | .cmdIllegal20 low rest => openTag (0x1 : BitVec 3) low :: rest
  | .cmdIllegal40 low rest => openTag (0x1 : BitVec 2) low :: rest
  | .rxNotify bytes => 0x80 :: bytes
  | .writeDone st => [0x81, st]
  | .tick => [0x82]
  | .linkDown => [0x83]
  | .inputReserved84 low rest => openTag (0x21 : BitVec 6) low :: rest
  | .inputReserved88 low rest => openTag (0x11 : BitVec 5) low :: rest
  | .inputReserved90 low rest => openTag (0x9 : BitVec 4) low :: rest
  | .inputReservedA0 low rest => openTag (0x5 : BitVec 3) low :: rest
  | .inputReservedC0 low rest => openTag (0x3 : BitVec 2) low :: rest
  | .txWrite frame => 0xC0 :: frame
  | .cmdDone op status detail => [0xC1, op, status, detail]
  | .deliver b0 seq flags payload => 0xC2 :: b0 :: seq :: flags :: (le16 (BitVec.ofNat 16 payload.length) ++ payload)
  | .log code arg => [0xC3, code, arg]
  | .fatal code => [0xC4, code]
  | .release => [0xC5]
  | .queryResp snapshot => 0xC6 :: snapshot

/-! ## One opcode-table word -/

/-- The first `n` bytes of `w`, bits 7..0 first. -/
def wordBytes : Nat → Nat → Bytes
  | 0, _ => []
  | n + 1, w => BitVec.ofNat 8 w :: wordBytes n (w / 256)

/-- Byte 0 is the tag of an input transaction that has a row of its own name (R120). -/
def isNamedInput (b0 : Byte) : Bool :=
  decide ((1 ≤ b0.toNat ∧ b0.toNat ≤ 4) ∨ (0x80 ≤ b0.toNat ∧ b0.toNat ≤ 0x83))

/-- Byte 0 is that of a wire frame whose subtype has a row of its own name (R107, R108). -/
def isNamedFrame (b0 : Byte) : Bool :=
  (classField b0 == 0 && !ctrlUnnamed (subtypeField b0)) || (classField b0 == 1 && !dataUnnamed (subtypeField b0))

/-- Byte 0 is the tag of an output event (R130). -/
def isOutputTag (b0 : Byte) : Bool := decide (0xC0 ≤ b0.toNat ∧ b0.toNat ≤ 0xC6)

/-- The format in which a table word is read. The three formats of the table share byte 0, and a word does not say
which it is of: a named input row wins, then a named frame row, then an output row, and all else is an input
transaction (DESIGN CHOICE, log entry 7). -/
def tableFormat (b0 : Byte) : Format :=
  if isNamedInput b0 then .input
  else if isNamedFrame b0 then .frame
  else if isOutputTag b0 then .output
  else .input

/-- `b` with zero bytes after it, up to `n` bytes. -/
def padTo (n : Nat) (b : Bytes) : Bytes := b ++ List.replicate (n - b.length) 0

/-- The length of the wire frame that begins with `b` (R110). -/
def frameLength (b : Bytes) : Nat :=
  match padTo 4 b with
  | _ :: flags :: _ :: n :: _ => 4 + n.toNat + (if flags.getLsbD 1 then 2 else 0)
  | _ => 4

/-- The length of the instruction of format `f` that begins with `b`, the shortest one where its length is open. -/
def instrLength (f : Format) (b : Bytes) : Nat :=
  match f, b with
  | .frame, _ => frameLength b
  | .input, 0x01 :: _ => 3
  | .input, 0x02 :: _ =>
    match padTo 7 b with
    | _ :: _ :: _ :: _ :: _ :: l0 :: l1 :: _ => 7 + (rd16 l0 l1).toNat
    | _ => 7
  | .input, 0x81 :: _ => 2
  | .output, 0xC0 :: rest => 1 + frameLength rest
  | .output, 0xC1 :: _ => 4
  | .output, 0xC2 :: _ =>
    match padTo 6 b with
    | _ :: _ :: _ :: _ :: l0 :: l1 :: _ => 6 + (rd16 l0 l1).toNat
    | _ => 6
  | .output, 0xC3 :: _ => 3
  | .output, 0xC4 :: _ => 2
  | .output, 0xC6 :: _ => 27
  | _, _ => b.length

/-- The format of a table word and the whole instruction that begins with it, every further bit zero. -/
def tableInstrBytes (nbits w : Nat) : Format × Bytes :=
  let b := wordBytes ((nbits + 7) / 8) w
  let f := tableFormat (b.headD 0)
  (f, padTo (instrLength f b) b)

/-- The instruction the decoder reads from a word of spec/opcode_table.json. -/
def decodeTableWord (nbits w : Nat) : Option Instr :=
  match decode (tableInstrBytes nbits w).1 (tableInstrBytes nbits w).2 with
  | .ok i => some i
  | .error _ => none

end Sys2Proof
end

