-- ==== Sys2Proof/Machine/State.lean ====
section
/-! DEFINITION. The state of the BFE as plain data (spec/10_state.md R32), its reset (R370), and why a step can stop. -/

namespace Sys2Proof.Machine

/-- `SESS` (R33): 0 CONNECTING, 1 READY, 2 CLOSED; no rule writes 3, which is no value of this type
(DEDUCED, log entry 14). -/
inductive Sess where
  | connecting
  | ready
  | closed
deriving DecidableEq, Repr

/-- `TX_STATE` (R39): 0 IDLE, 1 ISSUE, 2 WRITE_WAIT, 3 ACK_WAIT. -/
inductive TxState where
  | idle
  | issue
  | writeWait
  | ackWait
deriving DecidableEq, Repr

/-- `PORT_OWNER` (R45): 0 SEND, 1 AUTOACK. -/
inductive PortOwner where
  | send
  | autoAck
deriving DecidableEq, Repr

/-- A byte buffer as (address, byte) pairs in canonical form: addresses strictly rising, no entry that an unlisted
address reads as (R44, R50). -/
abbrev Buffer := List Host.Cell

/-- What a byte of a buffer that nothing has written reads as. The contents at reset are unspecified, no rule reads
them, and any value may be taken (R372): zero here (DESIGN CHOICE, log entry 5). -/
def unlistedByte : Byte := 0

/-- The parameters of R10 that a machine is made with: fixed at reset, written by no rule (R370). -/
structure Params where
  /-- `ACK_POLICY`. -/
  ackPolicy : AckPolicy
  /-- `RX_SEQ_UPDATE`. -/
  rxSeqUpdate : RxSeqUpdate
  /-- `ACKQ_DEPTH`, at least 1. -/
  ackqDepth : Nat
  /-- `DEFAULT_ACK_TIMEOUT`, 1 to 65535 ticks. -/
  defaultAckTimeout : Half
deriving DecidableEq, Repr

/-- The state of the BFE: registers 0 to 32 of R32 in their order, after the parameters; then the ports' pending
transactions and the stream of output events, which are the run's, not registers (R16, R397). -/
structure State where
  /-- The parameters of R10. -/
  params : Params
  /-- #0 SESS. -/
  sess : Sess
  /-- #1 LINK_OPEN. -/
  linkOpen : Bool
  /-- #2 FATAL. -/
  fatal : Bool
  /-- #3 RA_ACTIVE. -/
  raActive : Bool
  /-- #4 PORT_BUSY. -/
  portBusy : Bool
  /-- #5 PORT_OWNER. -/
  portOwner : PortOwner
  /-- #6 PEND_VALID. -/
  pendValid : Bool
  /-- #7 FATAL_CODE. -/
  fatalCode : Byte
  /-- #8 TX_SEQ. -/
  txSeq : Byte
  /-- #9 RX_EXP. -/
  rxExp : Byte
  /-- #10 CAP. -/
  cap : Half
  /-- #11 TX_STATE. -/
  txState : TxState
  /-- #12 TX_ACKREQ. -/
  txAckReq : Bool
  /-- #13 TX_CS. -/
  txCs : Bool
  /-- #14 TX_LAST. -/
  txLast : Bool
  /-- #15 PEND_ACKED. -/
  pendAcked : Bool
  /-- #16 TX_CLASS. -/
  txClass : FrameClass
  /-- #17 TX_SUBTYPE. -/
  txSubtype : BitVec 6
  /-- #18 TX_CUR_SEQ. -/
  txCurSeq : Byte
  /-- #19 TX_LEN. -/
  txLen : Half
  /-- #20 TX_OFF. -/
  txOff : Half
  /-- #21 TX_TIMEOUT. -/
  txTimeout : Half
  /-- #22 PEND_SEQ. -/
  pendSeq : Byte
  /-- #23 PEND_REMAIN. -/
  pendRemain : Half
  /-- #24 RA_TARGET. -/
  raTarget : Half
  /-- #25 RA_COUNT. -/
  raCount : Half
  /-- #26 RA_CLASS. -/
  raClass : FrameClass
  /-- #27 RA_SUBTYPE. -/
  raSubtype : BitVec 6
  /-- #28 RA_SEQ. -/
  raSeq : Byte
  /-- #29 RA_FLAGS. -/
  raFlags : Byte
  /-- #30 ACKQ, its head first. -/
  ackq : Bytes
  /-- #31 TX_BUF. -/
  txBuf : Buffer
  /-- #32 RA_BUF. -/
  raBuf : Buffer
  /-- The transactions waiting in the input ports, in the order in which the environment presents them (R89, R345;
  DESIGN CHOICE, log entry 6). -/
  input : List Bytes
  /-- The output events emitted so far, oldest first, each as its bytes (R16, R130; DESIGN CHOICE,
  log entry 13). -/
  out : List Bytes
deriving DecidableEq, Repr

/-- Every register at its reset value (R32, R370): all zero, ACKQ empty, nothing in the buffers. -/
def State.resetWith (params : Params) (input out : List Bytes) : State where
  params := params
  sess := .connecting
  linkOpen := false
  fatal := false
  raActive := false
  portBusy := false
  portOwner := .send
  pendValid := false
  fatalCode := 0
  txSeq := 0
  rxExp := 0
  cap := 0
  txState := .idle
  txAckReq := false
  txCs := false
  txLast := false
  pendAcked := false
  txClass := .control
  txSubtype := 0
  txCurSeq := 0
  txLen := 0
  txOff := 0
  txTimeout := 0
  pendSeq := 0
  pendRemain := 0
  raTarget := 0
  raCount := 0
  raClass := .control
  raSubtype := 0
  raSeq := 0
  raFlags := 0
  ackq := []
  txBuf := []
  raBuf := []
  input := input
  out := out

/-- The parameters of the machine that leaves reset: the defaults R10 gives, and for the parameters it leaves OPEN a
value nothing is known of but its range (DESIGN CHOICE, log entry 2). -/
def Params.initial : Params where
  ackPolicy := .perFrame
  rxSeqUpdate := .increment
  ackqDepth := Config.ackqDepth
  defaultAckTimeout := Config.defaultAckTimeout

/-- The machine right after reset (R370): no transaction waits and no event has been emitted. -/
def State.reset : State := State.resetWith Params.initial [] []

/-- Why the machine stops with a fault. A fatal error of the protocol is none of these: it is a defined state (R332). -/
inductive Fault where
  /-- Raised by `memWrite` and `memRead` for an access outside TX_BUF's or RA_BUF's 65535 bytes, which R94 says no rule
  makes (DEDUCED, log entry 15). Safe: the machine stops. -/
  | bufferRange
deriving DecidableEq, Repr

/-- Why the machine gives a transaction no step. -/
inductive Refusal where
  /-- Raised by an arm of `exec` whose instruction has no meaning yet. Safe. No arm does. -/
  | notModelled (mnemonic : String)
  /-- Raised for a transaction with a tag 0x84 to 0xFF, which the environment owes never to present (R129, R315). Safe. -/
  | reservedTag (tag : Byte)
  /-- Raised for a WRITE_DONE, TICK or LINK_DOWN of the wrong length, which the environment owes never to present
  (R129, R315). Safe. -/
  | malformedEvent (tag : Byte)
  /-- Raised for a transaction without a byte, which has no tag and so is of no port (R120). Safe. -/
  | emptyTransaction
deriving DecidableEq, Repr

end Sys2Proof.Machine
end

