-- ==== Sys2Proof/Machine/Flags.lean ====
section
/-! DEFINITION. Flags and codes: the control flags of a frame (R102), the numeric codes of the spec's enumerations
(R33, R39, R45, R138, R139, R331) and the QUERY snapshot that packs the status flags (R137). -/

namespace Sys2Proof

/-- The numeric value of a fatal code (R331). -/
def FatalCode.code : FatalCode → Byte
  | .encrypted => 0x01
  | .checksumMismatch => 0x02
  | .sequenceViolation => 0x03
  | .fragmentOverflow => 0x04
  | .truncatedFrame => 0x10
  | .lengthMismatch => 0x11
  | .reservedClass => 0x12
  | .fragmentTooShort => 0x13
  | .controlFragmented => 0x14
  | .malformedAck => 0x15

/-- The numeric value of a CMD_DONE status (R138). -/
def Status.code : Status → Byte
  | .ok => 0x00
  | .ackTimeout => 0x05
  | .transportError => 0x06
  | .notReady => 0x20
  | .illegalCommand => 0x21
  | .closed => 0x22
  | .sessionFatal => 0x23
  | .busy => 0x24

/-- The numeric value of a LOG code (R139). -/
def LogCode.code : LogCode → Byte
  | .unknownAck => 0x01
  | .rxIgnored => 0x02
  | .spuriousWriteDone => 0x03
  | .ackWriteFailed => 0x04

namespace Machine

/-! ## Control flags of a frame (R102) -/

/-- ENC, flag bit 0. -/
def encFlag (flags : Byte) : Bool := flags.getLsbD 0
/-- CS, flag bit 1. -/
def csFlag (flags : Byte) : Bool := flags.getLsbD 1
/-- DIR, flag bit 2. -/
def dirFlag (flags : Byte) : Bool := flags.getLsbD 2
/-- ACK, flag bit 3. -/
def ackFlag (flags : Byte) : Bool := flags.getLsbD 3
/-- FRAG, flag bit 4: more fragments follow (spec/90_conflicts.md C7). -/
def fragFlag (flags : Byte) : Bool := flags.getLsbD 4

/-- A single bit as a 1-bit field. -/
def bit (b : Bool) : BitVec 1 := BitVec.ofBool b

/-- The flags byte of a frame the block sends: CS, ACK and FRAG as given, ENC, DIR and bits 7:5 zero (R104, R109,
R151, R245). -/
def sendFlags (cs ack frag : Bool) : Byte :=
  ((0 : BitVec 3) ++ bit frag ++ bit ack ++ (0 : BitVec 1) ++ bit cs ++ (0 : BitVec 1) : BitVec (3 + 1 + 1 + 1 + 1 + 1))

/-! ## The QUERY snapshot (R137) -/

/-- The code of SESS (R33). -/
def sessCode : Sess → BitVec 2
  | .connecting => 0
  | .ready => 1
  | .closed => 2

/-- The code of TX_STATE (R39). -/
def txStateCode : TxState → BitVec 2
  | .idle => 0
  | .issue => 1
  | .writeWait => 2
  | .ackWait => 3

/-- The code of PORT_OWNER (R45). -/
def ownerCode : PortOwner → BitVec 1
  | .send => 0
  | .autoAck => 1

/-- Snapshot byte 1: SESS, LINK_OPEN, FATAL, RA_ACTIVE, PORT_BUSY, PORT_OWNER, PEND_VALID from bit 0 up. -/
def snapStatus (s : State) : Byte :=
  (bit s.pendValid ++ ownerCode s.portOwner ++ bit s.portBusy ++ bit s.raActive ++ bit s.fatal ++ bit s.linkOpen ++
    sessCode s.sess : BitVec (1 + 1 + 1 + 1 + 1 + 1 + 2))

/-- Snapshot byte 7: TX_STATE, TX_ACKREQ, TX_CS, TX_LAST, PEND_ACKED from bit 0 up; bits 7:6 zero. -/
def snapTx (s : State) : Byte :=
  ((0 : BitVec 2) ++ bit s.pendAcked ++ bit s.txLast ++ bit s.txCs ++ bit s.txAckReq ++ txStateCode s.txState :
    BitVec (2 + 1 + 1 + 1 + 1 + 2))

/-- Snapshot byte 26: the number of entries in ACKQ, free where a byte does not count them (DESIGN CHOICE, log entry 4). -/
def snapAckqCount (n : Nat) : Byte := if n < 256 then BitVec.ofNat 8 n else Config.ackqCountByte n

/-- Bytes 1 to 26 of QUERY_RESP (R137). -/
def snapshot (s : State) : Bytes :=
  [snapStatus s, s.fatalCode, s.txSeq, s.rxExp] ++ le16 s.cap ++
  [snapTx s, packByte0 s.txClass.code s.txSubtype, s.txCurSeq] ++ le16 s.txLen ++ le16 s.txOff ++ le16 s.txTimeout ++
  [s.pendSeq] ++ le16 s.pendRemain ++ le16 s.raTarget ++ le16 s.raCount ++
  [packByte0 s.raClass.code s.raSubtype, s.raSeq, s.raFlags, snapAckqCount s.ackq.length]

end Machine

end Sys2Proof
end

