-- ==== Sys2Proof/Machine/Operands.lean ====
section
/-! DEFINITION. The operands of the input transactions: SEND's fields (R122, R294), the effective capacity (R35), and the
SENDs that R141 names as pseudo-instructions. -/

namespace Sys2Proof.Machine

/-- The class a class field names, none for the reserved 2 and 3 (R103). -/
def frameClass (cls : BitVec 2) : Option FrameClass :=
  if cls = 0 then some .control else if cls = 1 then some .data else none

/-- `opts` bit 0, ack_req (R122). -/
def optAckReq (opts : Byte) : Bool := opts.getLsbD 0
/-- `opts` bit 1, cs (R122). -/
def optCs (opts : Byte) : Bool := opts.getLsbD 1
/-- `opts` bits 7:2, which must be zero (R122). -/
def optReserved (opts : Byte) : BitVec 6 := opts.extractLsb' 2 6

/-- The subtype of an ACK frame (R107). -/
def ackSubtype : BitVec 6 := 0

/-- The timeout a SEND latches: its own, or the default where it is 0 (R238). -/
def effectiveTimeout (p : Params) (timeout : Half) : Half := if timeout = 0 then p.defaultAckTimeout else timeout

/-- `CAP_EFF = min(CAP, 255)`, combinational (R35). -/
def capEff (s : State) : Nat := min s.cap.toNat Config.maxFramePayload

/-- The state lets a SEND start and hears notifications: READY and not fatal (R36, R301). -/
def listening (s : State) : Bool := decide (s.sess = .ready) && !s.fatal

/-- GET_VERSION (R141): `SEND Control/7 ack=1 cs=1 to=0 payload=[]`. -/
def pseudoGetVersion : Instr := .send (.message (packByte0 0 7) 0x03 0 [])

/-- SEND_CUSTOM_DATA (R141): `SEND Data/19 ack=1 cs=1 to=0 payload=bytes`. -/
def pseudoSendCustomData (bytes : Bytes) : Instr := .send (.message (packByte0 1 19) 0x03 0 bytes)

end Sys2Proof.Machine
end

