-- ==== Sys2Proof/Machine/Ops.lean ====
section
/-! DEFINITION. The named operations over the buffers, the output stream and the registers; the fatal entry (R340), which
is the BFE's taking of an exception, and what leaves the fatal state (R343). -/

namespace Sys2Proof.Machine

/-! ## Buffers (R94) -/

/-- The canonical form from address `a` up: addresses strictly rising inside the buffer, no entry an unlisted address
reads as. -/
def bufferWfFrom (a : Nat) : Buffer → Bool
  | [] => true
  | (x, v) :: r => decide (a ≤ x) && decide (x < Config.bufferSize) && decide (v ≠ unlistedByte) && bufferWfFrom (x + 1) r

/-- The canonical form of a buffer. -/
def bufferWf (b : Buffer) : Bool := bufferWfFrom 0 b

/-- One byte of a buffer. -/
def readByte : Buffer → Nat → Byte
  | [], _ => unlistedByte
  | (x, v) :: r, a => if x = a then v else readByte r a

/-- One cell put before a buffer whose addresses are above it, unless an unlisted address reads as the same. -/
def putCell (a : Nat) (v : Byte) (b : Buffer) : Buffer := if v = unlistedByte then b else (a, v) :: b

/-- A buffer with one byte written, in canonical form again. -/
def writeByte : Buffer → Nat → Byte → Buffer
  | [], a, v => putCell a v []
  | (x, w) :: r, a, v =>
    if a < x then putCell a v ((x, w) :: r)
    else if a = x then putCell a v r
    else (x, w) :: writeByte r a v

/-- A buffer with bytes written from address `a` up. -/
def writeBytes : Buffer → Nat → Bytes → Buffer
  | b, _, [] => b
  | b, a, v :: vs => writeBytes (writeByte b a v) (a + 1) vs

/-- `n` bytes of a buffer from address `a` up. -/
def readBytes (b : Buffer) (a : Nat) : Nat → Bytes
  | 0 => []
  | n + 1 => readByte b a :: readBytes b (a + 1) n

/-- `MemWrite(BUF, a, |B|, B)`; none where it would leave the buffer (R94). -/
def memWrite (b : Buffer) (a : Nat) (vs : Bytes) : Option Buffer :=
  if a + vs.length ≤ Config.bufferSize then some (writeBytes b a vs) else none

/-- `MemRead(BUF, a, n)`; none where it would leave the buffer (R94). -/
def memRead (b : Buffer) (a n : Nat) : Option Bytes :=
  if a + n ≤ Config.bufferSize then some (readBytes b a n) else none

/-- `B[i..j)` (R13). -/
def slice (b : Bytes) (i j : Nat) : Bytes := (b.drop i).take (j - i)

/-! ## Output events: `emit` (R15, R131-R137) -/

/-- Appends one output event to the output stream. -/
def emit (event : Bytes) (s : State) : State := { s with out := s.out ++ [event] }

/-- `emit TX_WRITE(frame)` (R131). -/
def emitTxWrite (frame : Bytes) (s : State) : State := emit (0xC0 :: frame) s

/-- `emit CMD_DONE(op, status, detail)` (R132), the status as its byte. -/
def emitCmdDone (op status detail : Byte) (s : State) : State := emit [0xC1, op, status, detail] s

/-- `emit DELIVER` with its fields (R133). -/
def emitDeliver (b0 seq flags : Byte) (payload : Bytes) (s : State) : State :=
  emit (0xC2 :: b0 :: seq :: flags :: (le16 (BitVec.ofNat 16 payload.length) ++ payload)) s

/-- `emit LOG(code, arg)` (R134), the code as its byte. -/
def emitLog (code arg : Byte) (s : State) : State := emit [0xC3, code, arg] s

/-- `emit FATAL(code)` (R135), the code as its byte. -/
def emitFatal (code : Byte) (s : State) : State := emit [0xC4, code] s

/-- `emit RELEASE` (R136). -/
def emitRelease (s : State) : State := emit [0xC5] s

/-- `emit QUERY_RESP(snapshot)` (R137). -/
def emitQueryResp (snap : Bytes) (s : State) : State := emit (0xC6 :: snap) s

/-- `done(op, status, 0)` (R15): the answer to a command whose status carries no detail. -/
def answer (op : Byte) (status : Status) (s : State) : State := emitCmdDone op status.code 0 s

/-- `done(0x02, status, 0)`: the end of a SEND. -/
def sendDone (status : Status) (s : State) : State := answer 0x02 status s

/-- The answer to an illegal command (R291). -/
def illegalCommand (tag : Byte) (s : State) : State := answer tag .illegalCommand s

/-! ## Clearing -/

/-- The seven RA registers to zero (R194, R296, R340). -/
def clearReassembly (s : State) : State :=
  { s with
    raActive := false
    raTarget := 0
    raCount := 0
    raClass := .control
    raSubtype := 0
    raSeq := 0
    raFlags := 0 }

/-- PEND_VALID, PEND_ACKED and PEND_REMAIN to zero; PEND_SEQ stays (R296, R340). -/
def clearPending (s : State) : State := { s with pendValid := false, pendAcked := false, pendRemain := 0 }

/-- ACKQ emptied (R296, R340). -/
def clearAckq (s : State) : State := { s with ackq := [] }

/-- TEARDOWN (R296). -/
def teardown (s : State) : State :=
  { clearPending (clearAckq (clearReassembly s)) with
    portBusy := false
    portOwner := .send
    txState := .idle }

/-! ## The fatal entry and the way out of it -/

/-- FATAL_ENTRY(code) (R340): what `raise Fatal(code)` runs. -/
def fatalEntry (code : FatalCode) (s : State) : State :=
  let recorded := emitFatal code.code { s with fatal := true, fatalCode := code.code }
  let cleared := clearPending (clearAckq (clearReassembly recorded))
  if s.txState = .idle then cleared
  else emitCmdDone 0x02 Status.sessionFatal.code code.code { cleared with txState := .idle }

/-- Reset as the external action that reuses an instance for a new session (R370, R343, R360): every register at its
reset value, no event emitted; the parameters may be fixed anew. No transaction does this: nothing else clears FATAL
(DEDUCED, log entry 19). -/
def resetInstance (params : Params) (s : State) : State := State.resetWith params s.input s.out

end Sys2Proof.Machine
end

