-- ==== Sys2Proof/Machine/Codec.lean ====
section
/-! DEFINITION. The frame codec (spec/40_codec.md): CHECKSUM, ENCODE and DECODE, over any value of the parameter CRC16. -/

namespace Sys2Proof.Machine

/-- CHECKSUM(seq, N, payload) (R154). -/
def checksum (crc : Config.Crc) (seq n : Byte) (payload : Bytes) : Half :=
  let c := crc 0x0000 [seq, n]
  if payload.length > 0 then crc c payload else c

/-- The checksum of a payload under its own length. -/
def payloadChecksum (crc : Config.Crc) (seq : Byte) (payload : Bytes) : Half :=
  checksum crc seq (BitVec.ofNat 8 payload.length) payload

/-- The fields of the wire frame of a frame value: with flag bit 1, its checksum (R151). -/
def frameFields (crc : Config.Crc) (f : Frame) : FrameParts where
  cls := f.cls.code
  subtype := f.subtype
  tail := { flags := f.flags
            seq := f.seq
            payload := f.payload
            checksum := if csFlag f.flags then some (payloadChecksum crc f.seq f.payload) else none }

/-- ENCODE(F) (R151). -/
def encodeFrame (crc : Config.Crc) (f : Frame) : Bytes := (frameFields crc f).bytes

/-- The checks of DECODE on a wire frame's fields, in the order of R165: length (fields that no bytes give have the
wrong length, DESIGN CHOICE, log entry 17), class, encryption, checksum. -/
def checkFrame (crc : Config.Crc) (p : FrameParts) : Except FatalCode Frame :=
  if p.tail.wf = false then .error .lengthMismatch
  else
    match frameClass p.cls with
    | none => .error .reservedClass
    | some cls =>
      if encFlag p.tail.flags then .error .encrypted
      else if p.tail.checksum.isSome && !(p.tail.checksum == some (payloadChecksum crc p.tail.seq p.tail.payload)) then
        .error .checksumMismatch
      else .ok { cls := cls, subtype := p.subtype, flags := p.tail.flags, seq := p.tail.seq, payload := p.tail.payload }

/-- DECODE(B) (R160). -/
def decodeFrameValue (crc : Config.Crc) (b : Bytes) : Except FatalCode Frame :=
  match splitFrame b with
  | .error c => .error c
  | .ok p => checkFrame crc p

end Sys2Proof.Machine
end

