-- ==== Sys2Proof/Machine/Fragment.lean ====
section
/-! DEFINITION. The fragmentation engine (spec/41_fragmentation.md): the outbound split and the inbound reassembly. -/

namespace Sys2Proof.Machine

/-! ## Outbound -/

/-- One fragment of the outbound split: its payload, its FRAG flag, and the cursor after it. -/
structure Fragment where
  payload : Bytes
  frag : Bool
  off : Nat
deriving DecidableEq, Repr

/-- NEXT_FRAGMENT(L, o, C, P) (R180). -/
def nextFragment (len off cap : Nat) (p : Bytes) : Fragment :=
  if len ≤ off + cap then ⟨slice p off len, false, len⟩
  else ⟨le16 (BitVec.ofNat 16 (len - off)) ++ slice p off (off + cap - 2), true, off + cap - 2⟩

/-- FRAG_EMIT() (R181): the next fragment of the SEND in progress; none only outside the buffer (R94). -/
def fragEmit (s : State) : Option (Fragment × State) :=
  match memRead s.txBuf 0 s.txLen.toNat with
  | none => none
  | some p =>
    let f := nextFragment s.txLen.toNat s.txOff.toNat (capEff s) p
    some (f, { s with txOff := BitVec.ofNat 16 f.off, txLast := !f.frag })

/-- The fragments of a whole outbound split from cursor `off` on, at most `fuel` of them: R180 iterated until the final
fragment (R183, R185). -/
def splitFrom (cap : Nat) (p : Bytes) : Nat → Nat → List Fragment
  | 0, _ => []
  | fuel + 1, off =>
    let f := nextFragment p.length off cap p
    if f.frag then f :: splitFrom cap p fuel f.off else [f]

/-- The outbound split of a payload at capacity `cap`; `p.length + 1` frames are enough (R185). -/
def split (cap : Nat) (p : Bytes) : List Fragment := splitFrom cap p (p.length + 1) 0

/-! ## Inbound -/

/-- What REASSEMBLE answers (R190). -/
inductive Reassembled where
  /-- `Deliver(M)`. -/
  | delivered (m : Message) (s : State)
  /-- `None`: more of the message is awaited. -/
  | awaiting (s : State)
  /-- A fatal error was raised. -/
  | raised (code : FatalCode) (s : State)
  /-- The copy would leave RA_BUF, which R94 says never happens. -/
  | outOfRange
deriving DecidableEq, Repr

/-- The message of a frame that is complete by itself (R195). -/
def wholeMessage (f : Frame) : Message := ⟨f.cls, f.subtype, f.seq, f.flags, f.payload⟩

/-- The copy, the count check and the delivery that end REASSEMBLE (R193, R194). -/
def appendData (data : Bytes) (s : State) : Reassembled :=
  let new := s.raCount.toNat + data.length
  if s.raTarget.toNat < new then .raised .fragmentOverflow s
  else
    match memWrite s.raBuf s.raCount.toNat data with
    | none => .outOfRange
    | some buf =>
      let s := { s with raBuf := buf, raCount := BitVec.ofNat 16 new }
      if new = s.raTarget.toNat then
        match memRead buf 0 s.raTarget.toNat with
        | none => .outOfRange
        | some payload =>
          .delivered ⟨s.raClass, s.raSubtype, s.raSeq, s.raFlags, payload⟩ (clearReassembly s)
      else .awaiting s

/-- The anchor registers, the target and the empty count that a first fragment writes (R191). -/
def startReassembly (f : Frame) (target : Half) (s : State) : State :=
  { s with
    raActive := true
    raTarget := target
    raCount := 0
    raClass := f.cls
    raSubtype := f.subtype
    raSeq := f.seq
    raFlags := f.flags }

/-- REASSEMBLE(F) (R190). -/
def reassemble (f : Frame) (s : State) : Reassembled :=
  if fragFlag f.flags then
    match f.payload with
    | lo :: hi :: data =>
      if s.raActive then appendData data s else appendData data (startReassembly f (rd16 lo hi) s)
    | _ => .raised .fragmentTooShort s
  else if s.raActive then appendData f.payload s
  else .delivered (wholeMessage f) s

end Sys2Proof.Machine
end

