-- ==== Sys2Proof/Machine/Reliability.lean ====
section
/-! DEFINITION. The reliability layer (spec/43_reliability.md sections 1 to 3) and the classification of delivered
messages (spec/44_delivery.md). -/

namespace Sys2Proof.Machine

/-- REGISTER(seq) (R230). -/
def register (seq : Byte) (s : State) : State :=
  { s with pendValid := true, pendSeq := seq, pendAcked := false, pendRemain := 0 }

/-- ARM() (R231). -/
def arm (s : State) : State := { s with pendRemain := s.txTimeout, txState := .ackWait }

/-- ADVANCE() (R234). -/
def advance (s : State) : State :=
  if s.txLast then sendDone .ok { s with txState := .idle } else { s with txState := .issue }

/-- ACK_RESOLVE(M) on M's payload (R232, R233). -/
def ackResolve (payload : Bytes) (s : State) : Except FatalCode State :=
  match payload with
  | [] => .error .malformedAck
  | a :: _ =>
    if s.pendValid && decide (s.pendSeq = a) then
      if s.txState = .ackWait then .ok (advance { s with pendValid := false, pendRemain := 0 })
      else .ok { s with pendValid := false, pendAcked := true }
    else .ok (emitLog LogCode.unknownAck.code a s)

/-- The timer step of TICK (R236); the counter wraps at 0, where no run is (DEDUCED, log entry 16). -/
def timerStep (s : State) : State :=
  if s.pendValid && decide (s.txState = .ackWait) then
    let left := s.pendRemain - 1
    if left = 0 then sendDone .ackTimeout { s with pendRemain := left, pendValid := false, txState := .idle }
    else { s with pendRemain := left }
  else s

/-- ACKQ_PUSH(seq) (R240). -/
def ackqPush (seq : Byte) (s : State) : State := { s with ackq := s.ackq ++ [seq] }

/-- The owed ACK of an accepted frame under PER_FRAME (R240, R241, R300). -/
def oweFrameAck (f : Frame) (s : State) : State :=
  if s.params.ackPolicy = .perFrame ∧ f.cls = .data ∧ ackFlag f.flags = true then ackqPush f.seq s else s

/-- The owed ACK of a delivered message under PER_DELIVERY (R240, R241, R300). -/
def oweMessageAck (m : Message) (s : State) : State :=
  if s.params.ackPolicy = .perDelivery ∧ m.cls = .data ∧ ackFlag m.flags = true then ackqPush m.seq s else s

/-- The RX port is enabled: ACKQ has room (R243, R300). -/
def rxEnabled (s : State) : Bool := decide (s.ackq.length < s.params.ackqDepth)

/-- `emit DELIVER(M)` (R260). -/
def deliverMessage (m : Message) (s : State) : State :=
  emitDeliver (packByte0 m.cls.code m.subtype) m.seq m.flags m.payload s

/-- CLASSIFY(M) (R261). -/
def classify (m : Message) (s : State) : Except FatalCode State :=
  if m.cls = .control ∧ m.subtype = ackSubtype then ackResolve m.payload s else .ok (deliverMessage m s)

end Sys2Proof.Machine
end

