-- ==== Sys2Proof/Machine/Sequencer.lean ====
section
/-! DEFINITION. The sequencer (spec/42_sequencer.md). -/

namespace Sys2Proof.Machine

/-- SEQ_NEXT() (R210): the sequence of the next emitted frame, and the state with TX_SEQ advanced modulo 256. -/
def seqNext (s : State) : Byte × State := (s.txSeq, { s with txSeq := s.txSeq + 1 })

/-- RX_EXP after a frame of sequence `seq` is accepted (R212, R213). -/
def nextExpected (s : State) (seq : Byte) : Byte :=
  match s.params.rxSeqUpdate with
  | .increment => s.rxExp + 1
  | .resync => seq + 1

/-- SEQ_CHECK(seq) (R212): unsigned 8-bit compare. -/
def seqCheck (seq : Byte) (s : State) : Except FatalCode State :=
  if seq < s.rxExp then .error .sequenceViolation else .ok { s with rxExp := nextExpected s seq }

end Sys2Proof.Machine
end

