-- ==== Sys2Proof/Machine/Arbiter.lean ====
section
/-! DEFINITION. The TX arbiter (spec/43_reliability.md section 4), which runs once at the end of every transaction (R16). -/

namespace Sys2Proof.Machine

/-- The automatic ACK of sequence `a` that is sent with sequence `seq` (R112, R242). -/
def ackFrame (seq a : Byte) : Frame where
  cls := .control
  subtype := ackSubtype
  flags := sendFlags true false false
  seq := seq
  payload := [a]

/-- The arbiter's first branch: the automatic ACK of `a`, the head of ACKQ, `rest` left in it (R245). -/
def issueAck (a : Byte) (rest : Bytes) (s : State) : State :=
  let n := seqNext { s with ackq := rest }
  emitTxWrite (encodeFrame Config.crc16 (ackFrame n.1 a)) { n.2 with portBusy := true, portOwner := .autoAck }

/-- The frame of the SEND in progress that carries a fragment (R245). -/
def sendFrame (s : State) (seq : Byte) (f : Fragment) : Frame where
  cls := s.txClass
  subtype := s.txSubtype
  flags := sendFlags s.txCs s.txAckReq f.frag
  seq := seq
  payload := f.payload

/-- The arbiter's second branch: the next frame of the SEND in progress (R245); none only outside the buffer (R94). -/
def issueSend (s : State) : Option State :=
  match fragEmit s with
  | none => none
  | some (f, s) =>
    let n := seqNext s
    let numbered := { n.2 with txCurSeq := n.1 }
    let registered := if s.txAckReq then register n.1 numbered else numbered
    some (emitTxWrite (encodeFrame Config.crc16 (sendFrame s n.1 f))
      { registered with portBusy := true, portOwner := .send, txState := .writeWait })

/-- ARBITER() (R245). -/
def arbiter (s : State) : Host.Outcome State Fault Refusal :=
  if s.portBusy || !listening s then .next s
  else
    match s.ackq with
    | a :: rest => .next (issueAck a rest s)
    | [] =>
      if s.txState = .issue then
        match issueSend s with
        | some s => .next s
        | none => .fault .bufferRange
      else .next s

/-- A transaction's own rule, then the arbiter (R16); a stop stays a stop. -/
def thenArbiter : Host.Outcome State Fault Refusal → Host.Outcome State Fault Refusal
  | .next s => arbiter s
  | .fault r => .fault r
  | .refused r => .refused r

end Sys2Proof.Machine
end

