-- ==== Sys2Proof/Machine/Events.lean ====
section
/-! DEFINITION. The output rows of the opcode table: the primitive `emit <EVENT>(fields)` of R15, which appends one
output event to the output stream. The block emits them from inside its transactions; no input transaction is one
(DESIGN CHOICE, log entry 8). -/

namespace Sys2Proof.Machine

/-- TX_WRITE (R131). -/
def execTxWrite (frame : Bytes) (s : State) : Host.Outcome State Fault Refusal := .next (emitTxWrite frame s)

/-- CMD_DONE (R132). -/
def execCmdDone (op status detail : Byte) (s : State) : Host.Outcome State Fault Refusal :=
  .next (emitCmdDone op status detail s)

/-- DELIVER (R133). -/
def execDeliver (b0 seq flags : Byte) (payload : Bytes) (s : State) : Host.Outcome State Fault Refusal :=
  .next (emitDeliver b0 seq flags payload s)

/-- LOG (R134). -/
def execLog (code arg : Byte) (s : State) : Host.Outcome State Fault Refusal := .next (emitLog code arg s)

/-- FATAL (R135): the event alone; the fatal entry that emits it is `fatalEntry` (R340). -/
def execFatal (code : Byte) (s : State) : Host.Outcome State Fault Refusal := .next (emitFatal code s)

/-- RELEASE (R136). -/
def execRelease (s : State) : Host.Outcome State Fault Refusal := .next (emitRelease s)

/-- QUERY_RESP (R137). -/
def execQueryResp (snapshot : Bytes) (s : State) : Host.Outcome State Fault Refusal := .next (emitQueryResp snapshot s)

end Sys2Proof.Machine
end

