-- ==== Sys2Proof/Machine/Inbound.lean ====
section
/-! DEFINITION. The inbound pipeline of RX_NOTIFY (spec/45_session.md R300) as shared operations. -/

namespace Sys2Proof.Machine

/-- The end of the pipeline for a message (R300): CLASSIFY, then the PER_DELIVERY acknowledgement. -/
def finishMessage (m : Message) (s : State) : State :=
  match classify m s with
  | .error code => fatalEntry code s
  | .ok s => oweMessageAck m s

/-- What REASSEMBLE's answer leads to (R300): the PER_FRAME acknowledgement of an accepted frame comes before CLASSIFY. -/
def afterReassembly (f : Frame) (r : Reassembled) : Host.Outcome State Fault Refusal :=
  match r with
  | .raised code s => .next (fatalEntry code s)
  | .outOfRange => .fault .bufferRange
  | .awaiting s => .next (oweFrameAck f s)
  | .delivered m s => .next (finishMessage m (oweFrameAck f s))

/-- The pipeline after DECODE (R300): SEQ_CHECK, the Control-fragment check, REASSEMBLE and what follows it. The
first error raised ends it (R290). -/
def acceptFrame (f : Frame) (s : State) : Host.Outcome State Fault Refusal :=
  match seqCheck f.seq s with
  | .error code => .next (fatalEntry code s)
  | .ok s =>
    if f.cls = .control ∧ fragFlag f.flags = true then .next (fatalEntry .controlFragmented s)
    else afterReassembly f (reassemble f s)

/-- A notification while the block is not listening (R301). -/
def ignoreNotification (s : State) : State := emitLog LogCode.rxIgnored.code 0 s

/-- What DECODE's answer leads to (R160, R300). -/
def afterDecode (r : Except FatalCode Frame) (s : State) : Host.Outcome State Fault Refusal :=
  match r with
  | .error code => .next (fatalEntry code s)
  | .ok f => acceptFrame f s

/-- RX_NOTIFY on a notification's bytes (R300, R301). -/
def notifyBytes (b : Bytes) (s : State) : Host.Outcome State Fault Refusal :=
  if listening s then afterDecode (decodeFrameValue Config.crc16 b) s else .next (ignoreNotification s)

/-- RX_NOTIFY on a notification that is one wire frame, given as its fields: what a frame row of the opcode table
means to the block that receives it (R261, R300; DEDUCED, log entry 11). -/
def notifyFrame (p : FrameParts) (s : State) : Host.Outcome State Fault Refusal :=
  if listening s then afterDecode (checkFrame Config.crc16 p) s else .next (ignoreNotification s)

end Sys2Proof.Machine
end

