-- ==== Sys2Proof/Machine/Frames.lean ====
section
/-! DEFINITION. The frame rows of the opcode table: what a received wire frame of each row does to the block. The block
reads no subtype but Control/ACK (R263), so each meaning is the inbound pipeline at the row's class and subtype; what
sets the rows apart in the pipeline is R261's classification and R241's acknowledgement. -/

namespace Sys2Proof.Machine

/-- A received Control/ACK frame (R107, R232: consumed by the ACK tracker unless a reassembly absorbs it (R197 item 4)). -/
def execCtrlAck (t : FrameTail) (s : State) : Host.Outcome State Fault Refusal :=
  notifyFrame ⟨0, 0, t⟩ s

/-- A received Control/SET_SECURITY_MODE frame (R107, R261: opaque, delivered). -/
def execCtrlSetSecurityMode (t : FrameTail) (s : State) : Host.Outcome State Fault Refusal :=
  notifyFrame ⟨0, 1, t⟩ s

/-- A received Control/SET_OP_MODE frame (R107, R261: opaque, delivered). -/
def execCtrlSetOpMode (t : FrameTail) (s : State) : Host.Outcome State Fault Refusal :=
  notifyFrame ⟨0, 2, t⟩ s

/-- A received Control/CONNECT_WIFI frame (R107, R261: opaque, delivered). -/
def execCtrlConnectWifi (t : FrameTail) (s : State) : Host.Outcome State Fault Refusal :=
  notifyFrame ⟨0, 3, t⟩ s

/-- A received Control/DISCONNECT_WIFI frame (R107, R261: opaque, delivered). -/
def execCtrlDisconnectWifi (t : FrameTail) (s : State) : Host.Outcome State Fault Refusal :=
  notifyFrame ⟨0, 4, t⟩ s

/-- A received Control/GET_WIFI_STATUS frame (R107, R261: opaque, delivered). -/
def execCtrlGetWifiStatus (t : FrameTail) (s : State) : Host.Outcome State Fault Refusal :=
  notifyFrame ⟨0, 5, t⟩ s

/-- A received Control/DEAUTHENTICATE frame (R107, R109, R261: carried like any other subtype). -/
def execCtrlDeauthenticate (t : FrameTail) (s : State) : Host.Outcome State Fault Refusal :=
  notifyFrame ⟨0, 6, t⟩ s

/-- A received Control/GET_VERSION frame (R107, R261: opaque, delivered). -/
def execCtrlGetVersion (t : FrameTail) (s : State) : Host.Outcome State Fault Refusal :=
  notifyFrame ⟨0, 7, t⟩ s

/-- A received Control/CLOSE_CONNECTION frame (R107, R261: opaque, delivered). -/
def execCtrlCloseConnection (t : FrameTail) (s : State) : Host.Outcome State Fault Refusal :=
  notifyFrame ⟨0, 8, t⟩ s

/-- A received Control/GET_WIFI_LIST frame (R107, R261: opaque, delivered). -/
def execCtrlGetWifiList (t : FrameTail) (s : State) : Host.Outcome State Fault Refusal :=
  notifyFrame ⟨0, 9, t⟩ s

/-- A received Control frame of a subtype without a name, 10 to 63 (R107, R109, R261: opaque, delivered). -/
def execCtrlOther (subtype : BitVec 6) (t : FrameTail) (s : State) : Host.Outcome State Fault Refusal :=
  notifyFrame ⟨0, subtype, t⟩ s

/-- A received Data/SOFTAP_MAX_CONNECTION_COUNT frame (R108, R261: delivered verbatim, R263; its payload's layout is R271's). -/
def execDataSoftapMaxConnectionCount (t : FrameTail) (s : State) : Host.Outcome State Fault Refusal :=
  notifyFrame ⟨1, 6, t⟩ s

/-- A received Data/SOFTAP_AUTH_MODE frame (R108, R261: delivered verbatim, R263; its payload's layout is R272's). -/
def execDataSoftapAuthMode (t : FrameTail) (s : State) : Host.Outcome State Fault Refusal :=
  notifyFrame ⟨1, 7, t⟩ s

/-- A received Data/SOFTAP_CHANNEL frame (R108, R261: delivered verbatim, R263; its payload's layout is R271's). -/
def execDataSoftapChannel (t : FrameTail) (s : State) : Host.Outcome State Fault Refusal :=
  notifyFrame ⟨1, 8, t⟩ s

/-- A received Data/WIFI_CONNECTION_STATE frame (R108, R261: delivered verbatim, R263; its payload's layout is R267's). -/
def execDataWifiConnectionState (t : FrameTail) (s : State) : Host.Outcome State Fault Refusal :=
  notifyFrame ⟨1, 15, t⟩ s

/-- A received Data/VERSION frame (R108, R261: delivered verbatim, R263; its payload's layout is R264's). -/
def execDataVersion (t : FrameTail) (s : State) : Host.Outcome State Fault Refusal :=
  notifyFrame ⟨1, 16, t⟩ s

/-- A received Data/WIFI_LIST frame (R108, R261: delivered verbatim, R263; its payload's layout is R265's). -/
def execDataWifiList (t : FrameTail) (s : State) : Host.Outcome State Fault Refusal :=
  notifyFrame ⟨1, 17, t⟩ s

/-- A received Data/ERROR frame (R108, R261: delivered verbatim, R263; its payload's layout is R269, R277's). -/
def execDataError (t : FrameTail) (s : State) : Host.Outcome State Fault Refusal :=
  notifyFrame ⟨1, 18, t⟩ s

/-- A received Data/CUSTOM_DATA frame (R108, R261: delivered verbatim, R263; its payload's layout is R270's). -/
def execDataCustomData (t : FrameTail) (s : State) : Host.Outcome State Fault Refusal :=
  notifyFrame ⟨1, 19, t⟩ s

/-- A received Data frame of a subtype without a name (R108, R109, R261: delivered verbatim, R263). -/
def execDataOther (subtype : BitVec 6) (t : FrameTail) (s : State) : Host.Outcome State Fault Refusal :=
  notifyFrame ⟨1, subtype, t⟩ s

/-- A received frame of class 2 or 3: RESERVED_CLASS, which is fatal (R103, R162). -/
def execReservedClass (low : BitVec 1) (subtype : BitVec 6) (t : FrameTail) (s : State) :
    Host.Outcome State Fault Refusal :=
  notifyFrame ⟨((1 : BitVec 1) ++ low : BitVec (1 + 1)), subtype, t⟩ s

end Sys2Proof.Machine
end

