-- ==== Sys2Proof/Machine/Commands.lean ====
section
/-! DEFINITION. The CMD port (spec/45_session.md sections 1 and 2): READY, SEND, CLOSE, QUERY and the unassigned tags.
Every command of a wrong length is an illegal command (R291). -/

namespace Sys2Proof.Machine

/-- READY (R292). -/
def execReady (a : ReadyArgs) (s : State) : Host.Outcome State Fault Refusal :=
  match a with
  | .badLength _ => .next (illegalCommand 0x01 s)
  | .capacity cap =>
    if s.sess ≠ .connecting ∨ cap < Config.minCap then .next (illegalCommand 0x01 s)
    else .next (answer 0x01 .ok { s with cap := cap, sess := .ready, linkOpen := true })

/-- SEND's check 1: the payload is not the one L counts, `opts` has a reserved bit, or the class is reserved (R294). -/
def sendMalformed (b0 opts : Byte) (payload : Bytes) : Bool :=
  decide (Config.maxPayload < payload.length) || decide (optReserved opts ≠ 0) || (frameClass (classField b0)).isNone

/-- The registers an accepted SEND latches, TX_BUF apart (R40, R294). -/
def latchSend (cls : FrameClass) (b0 opts : Byte) (timeout : Half) (len : Nat) (s : State) : State :=
  { s with
    txClass := cls
    txSubtype := subtypeField b0
    txAckReq := optAckReq opts
    txCs := optCs opts
    txTimeout := effectiveTimeout s.params timeout
    txLen := BitVec.ofNat 16 len
    txOff := 0
    txLast := false
    txState := .issue }

/-- SEND (R294): the refusals in the order R294 numbers them, then the acceptance. -/
def execSend (a : SendArgs) (s : State) : Host.Outcome State Fault Refusal :=
  match a with
  | .badLength _ => .next (illegalCommand 0x02 s)
  | .message b0 opts timeout payload =>
    if sendMalformed b0 opts payload then .next (illegalCommand 0x02 s)
    else if s.sess ≠ .ready then .next (sendDone .notReady s)
    else if s.fatal then .next (emitCmdDone 0x02 Status.sessionFatal.code s.fatalCode s)
    else if s.txState ≠ .idle then .next (sendDone .busy s)
    else
      match frameClass (classField b0) with
      | none => .next (illegalCommand 0x02 s)
      | some cls =>
        if cls = .control ∧ subtypeField b0 = ackSubtype ∧ optAckReq opts = true then .next (illegalCommand 0x02 s)
        else if cls = .control ∧ capEff s < payload.length then .next (illegalCommand 0x02 s)
        else
          match memWrite s.txBuf 0 payload with
          | none => .fault .bufferRange
          | some buf => .next { latchSend cls b0 opts timeout payload.length s with txBuf := buf }

/-- The end of an in-flight SEND that CLOSE and LINK_DOWN cause (R297, R310). -/
def failSend (status : Status) (s : State) : State := if s.txState = .idle then s else sendDone status s

/-- CLOSE's `if LINK_OPEN = 1 then emit RELEASE; LINK_OPEN <- 0` (R297). -/
def releaseLink (s : State) : State :=
  if s.linkOpen then { emitRelease s with linkOpen := false } else s

/-- CLOSE (R297). -/
def execClose (a : NoArgs) (s : State) : Host.Outcome State Fault Refusal :=
  match a with
  | .badLength _ => .next (illegalCommand 0x03 s)
  | .exact =>
    if s.sess = .closed then .next (answer 0x03 .ok s)
    else .next (answer 0x03 .ok (releaseLink { teardown (failSend .closed s) with sess := .closed }))

/-- QUERY (R298): the snapshot of the state before the arbiter of the same transaction runs. -/
def execQuery (a : NoArgs) (s : State) : Host.Outcome State Fault Refusal :=
  match a with
  | .badLength _ => .next (illegalCommand 0x04 s)
  | .exact => .next (emitQueryResp (snapshot s) s)

/-- A CMD-port transaction with the unassigned tag 0x00 (R291). -/
def execCmdIllegal00 (_rest : Bytes) (s : State) : Host.Outcome State Fault Refusal := .next (illegalCommand 0x00 s)

/-- A CMD-port transaction with the unassigned tag 0x05 (R291). -/
def execCmdIllegal05 (_rest : Bytes) (s : State) : Host.Outcome State Fault Refusal := .next (illegalCommand 0x05 s)

/-- A CMD-port transaction with an unassigned tag 0x06 to 0x07 (R291). -/
def execCmdIllegal06 (low : BitVec 1) (_rest : Bytes) (s : State) : Host.Outcome State Fault Refusal :=
  .next (illegalCommand (openTag (0x03 : BitVec 7) low) s)

/-- A CMD-port transaction with an unassigned tag 0x08 to 0x0F (R291). -/
def execCmdIllegal08 (low : BitVec 3) (_rest : Bytes) (s : State) : Host.Outcome State Fault Refusal :=
  .next (illegalCommand (openTag (0x01 : BitVec 5) low) s)

/-- A CMD-port transaction with an unassigned tag 0x10 to 0x1F (R291). -/
def execCmdIllegal10 (low : BitVec 4) (_rest : Bytes) (s : State) : Host.Outcome State Fault Refusal :=
  .next (illegalCommand (openTag (0x1 : BitVec 4) low) s)

/-- A CMD-port transaction with an unassigned tag 0x20 to 0x3F (R291). -/
def execCmdIllegal20 (low : BitVec 5) (_rest : Bytes) (s : State) : Host.Outcome State Fault Refusal :=
  .next (illegalCommand (openTag (0x1 : BitVec 3) low) s)

/-- A CMD-port transaction with an unassigned tag 0x40 to 0x7F (R291). -/
def execCmdIllegal40 (low : BitVec 6) (_rest : Bytes) (s : State) : Host.Outcome State Fault Refusal :=
  .next (illegalCommand (openTag (0x1 : BitVec 2) low) s)

end Sys2Proof.Machine
end

