-- ==== Sys2Proof/Machine/Transport.lean ====
section
/-! DEFINITION. The RX, WDONE, TICK and LINK ports (spec/45_session.md section 3) and the reserved tags (R315). -/

namespace Sys2Proof.Machine

/-- RX_NOTIFY (R300). The port holds the transaction while ACKQ is full (R243): the step fetches it only while the port
is enabled. -/
def execRxNotify (bytes : Bytes) (s : State) : Host.Outcome State Fault Refusal := notifyBytes bytes s

/-- The completion of a SEND frame's write, PORT_BUSY already cleared (R305). -/
def sendWriteDone (st : Byte) (s : State) : State :=
  if s.txState ≠ .writeWait then s
  else if st ≠ 0 then sendDone .transportError { s with pendValid := false, pendAcked := false, txState := .idle }
  else if s.txAckReq && !s.pendAcked then arm s
  else advance { s with pendAcked := false }

/-- The completion of an automatic ACK's write (R244, R305). -/
def ackWriteDone (st : Byte) (s : State) : State :=
  if st ≠ 0 then emitLog LogCode.ackWriteFailed.code 0 s else s

/-- WRITE_DONE (R305). -/
def execWriteDone (st : Byte) (s : State) : Host.Outcome State Fault Refusal :=
  if s.portBusy then
    match s.portOwner with
    | .autoAck => .next (ackWriteDone st { s with portBusy := false })
    | .send => .next (sendWriteDone st { s with portBusy := false })
  else .next (emitLog LogCode.spuriousWriteDone.code 0 s)

/-- TICK (R308). -/
def execTick (s : State) : Host.Outcome State Fault Refusal := .next (timerStep s)

/-- LINK_DOWN (R310). -/
def execLinkDown (s : State) : Host.Outcome State Fault Refusal :=
  if s.sess = .closed then .next s
  else .next { teardown (failSend .transportError s) with sess := .closed, linkOpen := false }

/-- A transaction with a reserved tag 0x84 to 0x87: refused, it has no step (R129, R290, R315). -/
def execInputReserved84 (low : BitVec 2) (_rest : Bytes) (_s : State) : Host.Outcome State Fault Refusal :=
  .refused (.reservedTag (openTag (0x21 : BitVec 6) low))

/-- A transaction with a reserved tag 0x88 to 0x8F: refused, it has no step (R129, R290, R315). -/
def execInputReserved88 (low : BitVec 3) (_rest : Bytes) (_s : State) : Host.Outcome State Fault Refusal :=
  .refused (.reservedTag (openTag (0x11 : BitVec 5) low))

/-- A transaction with a reserved tag 0x90 to 0x9F: refused, it has no step (R129, R290, R315). -/
def execInputReserved90 (low : BitVec 4) (_rest : Bytes) (_s : State) : Host.Outcome State Fault Refusal :=
  .refused (.reservedTag (openTag (0x9 : BitVec 4) low))

/-- A transaction with a reserved tag 0xA0 to 0xBF: refused, it has no step (R129, R290, R315). -/
def execInputReservedA0 (low : BitVec 5) (_rest : Bytes) (_s : State) : Host.Outcome State Fault Refusal :=
  .refused (.reservedTag (openTag (0x5 : BitVec 3) low))

/-- A transaction with a reserved tag 0xC0 to 0xFF: refused, it has no step (R129, R290, R315). -/
def execInputReservedC0 (low : BitVec 6) (_rest : Bytes) (_s : State) : Host.Outcome State Fault Refusal :=
  .refused (.reservedTag (openTag (0x3 : BitVec 2) low))

end Sys2Proof.Machine
end

