-- ==== Sys2Proof/Machine/Dispatch.lean ====
section
/-! DEFINITION. One arm per constructor of `Instr`, each the direct call of its meaning. -/

namespace Sys2Proof.Machine

def exec (i : Instr) (s : State) : Host.Outcome State Fault Refusal :=
  match i with
  | .ctrlAck t => Sys2Proof.Machine.execCtrlAck t s
  | .ctrlSetSecurityMode t => Sys2Proof.Machine.execCtrlSetSecurityMode t s
  | .ctrlSetOpMode t => Sys2Proof.Machine.execCtrlSetOpMode t s
  | .ctrlConnectWifi t => Sys2Proof.Machine.execCtrlConnectWifi t s
  | .ctrlDisconnectWifi t => Sys2Proof.Machine.execCtrlDisconnectWifi t s
  | .ctrlGetWifiStatus t => Sys2Proof.Machine.execCtrlGetWifiStatus t s
  | .ctrlDeauthenticate t => Sys2Proof.Machine.execCtrlDeauthenticate t s
  | .ctrlGetVersion t => Sys2Proof.Machine.execCtrlGetVersion t s
  | .ctrlCloseConnection t => Sys2Proof.Machine.execCtrlCloseConnection t s
  | .ctrlGetWifiList t => Sys2Proof.Machine.execCtrlGetWifiList t s
  | .ctrlOther subtype t => Sys2Proof.Machine.execCtrlOther subtype t s
  | .dataSoftapMaxConnectionCount t => Sys2Proof.Machine.execDataSoftapMaxConnectionCount t s
  | .dataSoftapAuthMode t => Sys2Proof.Machine.execDataSoftapAuthMode t s
  | .dataSoftapChannel t => Sys2Proof.Machine.execDataSoftapChannel t s
  | .dataWifiConnectionState t => Sys2Proof.Machine.execDataWifiConnectionState t s
  | .dataVersion t => Sys2Proof.Machine.execDataVersion t s
  | .dataWifiList t => Sys2Proof.Machine.execDataWifiList t s
  | .dataError t => Sys2Proof.Machine.execDataError t s
  | .dataCustomData t => Sys2Proof.Machine.execDataCustomData t s
  | .dataOther subtype t => Sys2Proof.Machine.execDataOther subtype t s
  | .reservedClass low subtype t => Sys2Proof.Machine.execReservedClass low subtype t s
  | .ready a => Sys2Proof.Machine.execReady a s
  | .send a => Sys2Proof.Machine.execSend a s
  | .close a => Sys2Proof.Machine.execClose a s
  | .query a => Sys2Proof.Machine.execQuery a s
  | .cmdIllegal00 rest => Sys2Proof.Machine.execCmdIllegal00 rest s
  | .cmdIllegal05 rest => Sys2Proof.Machine.execCmdIllegal05 rest s
  | .cmdIllegal06 low rest => Sys2Proof.Machine.execCmdIllegal06 low rest s
  | .cmdIllegal08 low rest => Sys2Proof.Machine.execCmdIllegal08 low rest s
  | .cmdIllegal10 low rest => Sys2Proof.Machine.execCmdIllegal10 low rest s
  | .cmdIllegal20 low rest => Sys2Proof.Machine.execCmdIllegal20 low rest s
  | .cmdIllegal40 low rest => Sys2Proof.Machine.execCmdIllegal40 low rest s
  | .rxNotify bytes => Sys2Proof.Machine.execRxNotify bytes s
  | .writeDone st => Sys2Proof.Machine.execWriteDone st s
  | .tick => Sys2Proof.Machine.execTick s
  | .linkDown => Sys2Proof.Machine.execLinkDown s
  | .inputReserved84 low rest => Sys2Proof.Machine.execInputReserved84 low rest s
  | .inputReserved88 low rest => Sys2Proof.Machine.execInputReserved88 low rest s
  | .inputReserved90 low rest => Sys2Proof.Machine.execInputReserved90 low rest s
  | .inputReservedA0 low rest => Sys2Proof.Machine.execInputReservedA0 low rest s
  | .inputReservedC0 low rest => Sys2Proof.Machine.execInputReservedC0 low rest s
  | .txWrite frame => Sys2Proof.Machine.execTxWrite frame s
  | .cmdDone op status detail => Sys2Proof.Machine.execCmdDone op status detail s
  | .deliver b0 seq flags payload => Sys2Proof.Machine.execDeliver b0 seq flags payload s
  | .log code arg => Sys2Proof.Machine.execLog code arg s
  | .fatal code => Sys2Proof.Machine.execFatal code s
  | .release => Sys2Proof.Machine.execRelease s
  | .queryResp snapshot => Sys2Proof.Machine.execQueryResp snapshot s

end Sys2Proof.Machine
end

