-- ==== Sys2Proof/Machine/Fetch.lean ====
section
/-! DEFINITION. Taking the next input transaction (R16, R89, R345), and presenting one. -/

namespace Sys2Proof.Machine

/-- The transaction is one of the RX port (R120). -/
def isRx : Bytes → Bool
  | tag :: _ => tag == 0x80
  | [] => false

/-- The first transaction whose port is enabled, and the others in their order: with the RX port held, the RX
transactions are passed over and wait (R89, R243; DESIGN CHOICE, log entry 6). -/
def takeEnabled (rxHeld : Bool) : List Bytes → Option (Bytes × List Bytes)
  | [] => none
  | t :: ts =>
    if rxHeld && isRx t then (takeEnabled rxHeld ts).map (fun r => (r.1, t :: r.2)) else some (t, ts)

/-- The next transaction and the state without it; none while no enabled port has one (R371). -/
def fetch (s : State) : Option (Bytes × State) :=
  (takeEnabled (!rxEnabled s) s.input).map (fun r => (r.1, { s with input := r.2 }))

/-- The environment presents one more transaction, behind those that wait (R89). -/
def present (t : Bytes) (s : State) : State := { s with input := s.input ++ [t] }

/-- The name under which a transaction that decodes to nothing is refused (R129, R315; DEDUCED, log entry 12). -/
def refusalOf : Reject → Refusal
  | .empty => .emptyTransaction
  | .malformedEvent tag => .malformedEvent tag
  | .notAFrame _ => .emptyTransaction
  | .notAnEvent tag => .reservedTag tag

/-- The input transaction that carries the bytes of an instruction: a wire frame arrives in an RX_NOTIFY (R126). -/
def transactionOf (f : Format) (b : Bytes) : Bytes :=
  match f with
  | .frame => 0x80 :: b
  | .input => b
  | .output => b

end Sys2Proof.Machine
end

