-- ==== Sys2Proof/Machine/Step.lean ====
section
/-! DEFINITION. One step of the BFE: one whole input transaction (R16, R86, R290). -/

namespace Sys2Proof.Machine

/-- What the bytes of one input transaction do: its rule, then the arbiter (R16, R290; log entry 20). -/
def transact (t : Bytes) (s : State) : Host.Outcome State Fault Refusal :=
  match decode .input t with
  | .error r => .refused (refusalOf r)
  | .ok i => thenArbiter (exec i s)

/-- One step: the next transaction of an enabled port, whole. With none the block waits and holds its state (R361,
R371; DESIGN CHOICE, log entry 10). -/
def step (s : State) : Host.Outcome State Fault Refusal :=
  match fetch s with
  | none => .next s
  | some (t, s) => transact t s

/-- `s` with the instruction that begins with the table word `w` presented before every waiting transaction (DESIGN
CHOICE, log entry 9). -/
def State.withFetchWord (s : State) (nbits w : Nat) : State :=
  let r := tableInstrBytes nbits w
  { s with input := transactionOf r.1 r.2 :: s.input }

end Sys2Proof.Machine
end

