-- ==== Sys2Proof/Machine/Payload.lean ====
section
/-! DEFINITION. The payload layouts the consumer of DELIVER events reads (spec/44_delivery.md section 2). They bind the
consumer, not the block: no meaning calls them (R263; DEDUCED, log entry 18). A payload that no rule reads is none. -/

namespace Sys2Proof.Machine.Payload

/-- VERSION (R264): major, minor. -/
def version : Bytes → Option (Byte × Byte)
  | [major, minor] => some (major, minor)
  | _ => none

/-- One WIFI_LIST record (R265). -/
structure WifiEntry where
  len : Byte
  rssi : Int
  ssid : Bytes
deriving DecidableEq, Repr

/-- The rssi byte, two's complement (R266). -/
def rssiOf (b : Byte) : Int := b.toInt

/-- WIFI_LIST (R265), at most `fuel` records. A record with entry_len 0 or cut off by the payload's end has no reading
(spec/91_not_in_source.md N19). -/
def wifiListFrom : Nat → Bytes → Option (List WifiEntry)
  | _, [] => some []
  | 0, _ :: _ => none
  | fuel + 1, n :: rest =>
    match rest.take n.toNat with
    | rssi :: ssid =>
      if rest.length < n.toNat then none
      else (wifiListFrom fuel (rest.drop n.toNat)).map (WifiEntry.mk n (rssiOf rssi) ssid :: ·)
    | [] => none

/-- WIFI_LIST (R265): every record takes at least one byte. -/
def wifiList (p : Bytes) : Option (List WifiEntry) := wifiListFrom p.length p

/-- The named values of the connection_state byte (R268). -/
inductive ConnectionState where
  | connected
  | disconnected
  | connecting
  | connectedNoIp
  | unnamed (b : Byte)
deriving DecidableEq, Repr

/-- connection_state (R268). -/
def connectionState (b : Byte) : ConnectionState :=
  if b = 0 then .connected
  else if b = 1 then .disconnected
  else if b = 2 then .connecting
  else if b = 3 then .connectedNoIp
  else .unnamed b

/-- One extra record of WIFI_CONNECTION_STATE (R267). -/
structure Tlv where
  infoType : Byte
  info : Bytes
deriving DecidableEq, Repr

/-- The extra records of R267, at most `fuel` of them; one that runs past the end has no reading (N19). -/
def tlvsFrom : Nat → Bytes → Option (List Tlv)
  | _, [] => some []
  | 0, _ :: _ => none
  | fuel + 1, ty :: n :: rest =>
    if rest.length < n.toNat then none
    else (tlvsFrom fuel (rest.drop n.toNat)).map (Tlv.mk ty (rest.take n.toNat) :: ·)
  | _ + 1, [_] => none

/-- A WIFI_CONNECTION_STATE payload (R267). The op_mode values are not in the source (N8). -/
structure WifiState where
  opMode : Byte
  state : ConnectionState
  clients : Byte
  extra : List Tlv
deriving DecidableEq, Repr

/-- WIFI_CONNECTION_STATE (R267). -/
def wifiState : Bytes → Option WifiState
  | opMode :: state :: clients :: rest =>
    (tlvsFrom rest.length rest).map (WifiState.mk opMode (connectionState state) clients ·)
  | _ => none

/-- The one byte of ERROR (R269), SOFTAP_MAX_CONNECTION_COUNT and SOFTAP_CHANNEL (R271). The code-to-name mapping of ERROR
is not in the source (N7). -/
def oneByte : Bytes → Option Byte
  | [b] => some b
  | _ => none

/-- The ranges a sender keeps (R271): 1 to 4 connections. The block does not check it. -/
def maxConnectionsInRange (b : Byte) : Bool := decide (1 ≤ b.toNat ∧ b.toNat ≤ 4)

/-- The ranges a sender keeps (R271): channels 1 to 14. The block does not check it. -/
def channelInRange (b : Byte) : Bool := decide (1 ≤ b.toNat ∧ b.toNat ≤ 14)

/-- The reading of a SOFTAP_AUTH_MODE byte: one of the five names, or a number none of them has. -/
inductive AuthReading where
  | named (mode : AuthMode)
  | unnamed (b : Byte)
deriving DecidableEq, Repr

/-- The five modes in the order the source lists them (R272). -/
def authModes : List AuthMode := [.openNetwork, .wep, .wpaPsk, .wpa2Psk, .wpaWpa2Psk]

/-- The name of a mode byte under a numbering, which the source does not give (R272, N8). -/
def authReading (code : AuthMode → Byte) (b : Byte) : AuthReading :=
  match authModes.find? (fun m => code m == b) with
  | some m => .named m
  | none => .unnamed b

/-- SOFTAP_AUTH_MODE (R272) under a numbering: one byte, an enumeration. -/
def authModeUnder (code : AuthMode → Byte) : Bytes → Option AuthReading
  | [b] => some (authReading code b)
  | _ => none

/-- SOFTAP_AUTH_MODE (R272), the numbers left open (DESIGN CHOICE, log entry 21). -/
def softapAuthMode (p : Bytes) : Option AuthReading := authModeUnder Config.authModeCode p

/-- The numbering 0 to 4 in the listed order, the common convention that R272 has a consumer treat as an assumption; nothing
of the model assumes it (PRESUMED, log entry 22). -/
def commonAuthCode : AuthMode → Byte
  | .openNetwork => 0
  | .wep => 1
  | .wpaPsk => 2
  | .wpa2Psk => 3
  | .wpaWpa2Psk => 4

/-- CUSTOM_DATA (R270): opaque bytes. -/
def customData (p : Bytes) : Bytes := p

end Sys2Proof.Machine.Payload
end

