-- ==== Sys2Proof/Safety.lean ====
section
/-! DEFINITION. What counts as a sound state and a quiescent one, and the small vocabulary the statements use: the
invariants of R53, the end of a run (R397), feeding frames to REASSEMBLE (R198), what an emitted event is. -/

namespace Sys2Proof.Machine

/-- The nine invariants of R53, in its order. -/
structure RegisterInvariants (s : State) : Prop where
  /-- 1. -/
  pending_of_sent : s.pendValid = true → s.txAckReq = true ∧ (s.txState = .writeWait ∨ s.txState = .ackWait)
  /-- 2. -/
  ackWait_pending : s.txState = .ackWait → s.pendValid = true ∧ s.pendSeq = s.txCurSeq
  /-- 3. -/
  acked_early : s.pendAcked = true → s.pendValid = false ∧ s.txState = .writeWait
  /-- 4. -/
  writeWait_owns_port : s.txState = .writeWait → s.portBusy = true ∧ s.portOwner = .send
  /-- 5. -/
  idle_unless_ready : s.sess ≠ .ready →
    s.txState = .idle ∧ s.pendValid = false ∧ s.ackq = [] ∧ s.raActive = false ∧ s.portBusy = false
  /-- 6. -/
  idle_when_fatal : s.fatal = true → s.txState = .idle ∧ s.pendValid = false ∧ s.ackq = [] ∧ s.raActive = false
  /-- 7. -/
  reassembly_clear : s.raActive = false →
    s.raTarget = 0 ∧ s.raCount = 0 ∧ s.raClass = .control ∧ s.raSubtype = 0 ∧ s.raSeq = 0 ∧ s.raFlags = 0
  /-- 8. -/
  counts_in_range : s.raCount ≤ s.raTarget ∧ s.txOff ≤ s.txLen
  /-- 9. -/
  timer_stopped : s.pendValid = false ∨ s.txState = .writeWait → s.pendRemain = 0

/-- The parameters lie in the ranges of R10. -/
structure LegalParams (p : Params) : Prop where
  depth_pos : 1 ≤ p.ackqDepth
  timeout_pos : p.defaultAckTimeout ≠ 0

/-- A sound state: R53's invariants, the ranges of the registers, the canonical form of the buffers, and what makes
these inductive (each further clause cites the rules it comes from). -/
structure Sound (s : State) : Prop extends RegisterInvariants s where
  /-- R10. -/
  params_legal : LegalParams s.params
  /-- R44, R50: both buffers are in canonical form, every address inside them. -/
  buffers_wf : bufferWf s.txBuf = true ∧ bufferWf s.raBuf = true
  /-- R47, R243. -/
  ackq_fits : s.ackq.length ≤ s.params.ackqDepth
  /-- R32 #10, R292: a READY session has a capacity of at least 3. -/
  cap_when_ready : s.sess = .ready → Config.minCap ≤ s.cap
  /-- R34, R292, R297, R310. -/
  link_open_iff : s.linkOpen = true ↔ s.sess = .ready
  /-- R36, R301: a fatal error is raised in READY only, and FATAL_CODE is 0 before. -/
  fatal_recorded : (s.fatal = true → s.sess ≠ .connecting) ∧ (s.fatal = false → s.fatalCode = 0)
  /-- R230, R233: the frame being written is pending, or its ACK came early. -/
  writeWait_pending : s.txState = .writeWait → s.txAckReq = true → s.pendAcked = false → s.pendValid = true
  /-- R230, R245. -/
  pending_is_current : s.pendValid = true → s.pendSeq = s.txCurSeq
  /-- R231, R238: an armed timer is never 0, and a SEND in progress has a timeout. -/
  timer_armed : (s.txState = .ackWait → s.pendRemain ≠ 0) ∧ (s.txState ≠ .idle → s.txTimeout ≠ 0)
  /-- R187: a Control SEND in progress fits one frame. -/
  control_fits : s.txState ≠ .idle → s.txClass = .control → s.txLen.toNat ≤ capEff s
  /-- R252: no Control/ACK SEND asks for an acknowledgement. -/
  no_ack_of_ack : s.txClass = .control → s.txSubtype = ackSubtype → s.txAckReq = false
  /-- R298: no transaction leaves work behind while the write port is free. -/
  settled : listening s = true → s.portBusy = false → s.ackq = [] ∧ s.txState ≠ .issue
  /-- R188, R191: a reassembly is anchored by a Data frame, since a Control fragment is fatal. -/
  anchor_data : s.raActive = true → s.raClass = .data

/-- The block is quiescent (R397). -/
def Quiescent (s : State) : Prop := s.portBusy = false ∧ s.txState = .idle ∧ s.ackq = []

/-- Frames fed to REASSEMBLE one after another (R198): the messages delivered and the state left; none where an error
is raised. -/
def feed : List Frame → State → Option (List Message × State)
  | [], s => some ([], s)
  | f :: fs, s =>
    match reassemble f s with
    | .delivered m s => (feed fs s).map (fun r => (m :: r.1, r.2))
    | .awaiting s => feed fs s
    | .raised _ _ => none
    | .outOfRange => none

/-- The frames of an outbound split, numbered from `seq` on (R245, R198). -/
def numberFrames (cls : FrameClass) (subtype : BitVec 6) (cs ack : Bool) : Byte → List Fragment → List Frame
  | _, [] => []
  | seq, f :: fs => ⟨cls, subtype, sendFlags cs ack f.frag, seq, f.payload⟩ :: numberFrames cls subtype cs ack (seq + 1) fs

/-- The frame is one DECODE accepts (R160): well formed, not encrypted, its checksum right where it carries one. -/
def intact (t : FrameTail) : Prop :=
  t.wf = true ∧ encFlag t.flags = false ∧
    (csFlag t.flags = true → t.checksum = some (payloadChecksum Config.crc16 t.seq t.payload))

/-- Transactions taken one after another, each with its arbiter (R16, R397); the first stop ends them. -/
def transactAll : List Bytes → State → Host.Outcome State Fault Refusal
  | [], s => .next s
  | t :: ts, s =>
    match transact t s with
    | .next s => transactAll ts s
    | .fault r => .fault r
    | .refused r => .refused r

/-- The two bytes of a 16-bit number, the low one first (R13), as arithmetic. -/
def twoBytes (n : Nat) : Bytes := [BitVec.ofNat 8 n, BitVec.ofNat 8 (n / 256)]

/-- The DELIVER event of a message (R133). -/
def deliverEvent (b0 seq flags : Byte) (payload : Bytes) : Bytes :=
  [0xC2, b0, seq, flags] ++ twoBytes payload.length ++ payload

/-- A frame value that satisfies the preconditions of ENCODE (R151, R152). -/
def encodable (f : Frame) : Prop :=
  f.payload.length ≤ 255 ∧ f.flags.getLsbD 0 = false ∧ f.flags.extractLsb' 5 3 = 0

/-- Two states that differ at most in buffer bytes that no rule reads (R372): the bytes of the current SEND in TX_BUF and
those below RA_COUNT in RA_BUF are the same. -/
structure SameButUnread (s u : State) : Prop where
  registers : u = { s with txBuf := u.txBuf, raBuf := u.raBuf }
  canonical : bufferWf s.txBuf = true ∧ bufferWf s.raBuf = true ∧ bufferWf u.txBuf = true ∧ bufferWf u.raBuf = true
  sending : s.txState ≠ .idle → ∀ a < s.txLen.toNat, readByte s.txBuf a = readByte u.txBuf a
  reassembled : ∀ a < s.raCount.toNat, readByte s.raBuf a = readByte u.raBuf a

/-- The event is a DELIVER (R133). -/
def isDeliver : Bytes → Bool
  | tag :: _ => tag == 0xC2
  | [] => false

/-- The event is a FATAL (R135). -/
def isFatalEvent : Bytes → Bool
  | tag :: _ => tag == 0xC4
  | [] => false

/-- The event is a TX_WRITE (R131). -/
def isTxWrite : Bytes → Bool
  | tag :: _ => tag == 0xC0
  | [] => false

/-- The event is a CMD_DONE of a SEND (R132). -/
def isSendDone : Bytes → Bool
  | [tag, op, _, _] => tag == 0xC1 && op == 0x02
  | _ => false

/-- The statuses with which a SEND in progress ends (R294): OK, ACK_TIMEOUT, TRANSPORT_ERROR, CLOSED, SESSION_FATAL. -/
def isSendEnd : Bytes → Bool
  | [_, _, st, _] => st == 0x00 || st == 0x05 || st == 0x06 || st == 0x22 || st == 0x23
  | _ => false

end Sys2Proof.Machine
end

