-- ==== Sys2Proof/Certificates/Slice0/Obligations.lean ====
section
/-! DEFINITION. The statements for the provers, in the order of OBLIGATIONS.json. Each docstring names the rules of spec/
it formalises; numbers stand as numerals so that a statement does not repeat a definition's names. -/

open Sys2Proof Sys2Proof.Machine

/-! ## Encoding -/

/-- Words written out from the layouts of R100, R107, R108, R120-R129 and R130-R137, and what they decode to. -/
def Obligations.DecodeWrittenWords : Prop :=
  decode .frame [0x1C, 0x0A, 0x03, 0x00, 0x53, 0x55] = .ok (.ctrlGetVersion ⟨0x0A, 3, [], some 0x5553⟩) ∧
  decode .frame [0x00, 0x02, 0x01, 0x01, 0x01, 0x20, 0x14] = .ok (.ctrlAck ⟨0x02, 1, [0x01], some 0x1420⟩) ∧
  decode .frame [0x4D, 0x10, 0x07, 0x03, 0x05, 0x00, 0xAA] =
    .ok (.dataCustomData ⟨0x10, 7, [0x05, 0x00, 0xAA], none⟩) ∧
  decode .frame [0x1E, 0x00, 0x00, 0x00] = .ok (.reservedClass 0 7 ⟨0, 0, [], none⟩) ∧
  decode .input [0x01, 0x2F, 0x00] = .ok (.ready (.capacity 47)) ∧
  decode .input [0x02, 0x4D, 0x01, 0x05, 0x00, 0x02, 0x00, 0x11, 0x22] =
    .ok (.send (.message 0x4D 0x01 5 [0x11, 0x22])) ∧
  decode .input [0x03] = .ok (.close .exact) ∧
  decode .input [0x07] = .ok (.cmdIllegal06 1 []) ∧
  decode .input [0x80, 0x1C] = .ok (.rxNotify [0x1C]) ∧
  decode .input [0x81, 0x01] = .ok (.writeDone 1) ∧
  decode .input [0x9A] = .ok (.inputReserved90 0xA []) ∧
  decode .output [0xC1, 0x02, 0x23, 0x03] = .ok (.cmdDone 0x02 0x23 0x03) ∧
  decode .output [0xC2, 0x49, 0x05, 0x04, 0x01, 0x00, 0x07] = .ok (.deliver 0x49 5 4 [0x07])

/-- Decoding an encoded well-formed instruction gives it back, for every row and every operand (R100, R121-R137). -/
def Obligations.DecodeEncode : Prop :=
  ∀ i : Instr, i.wf = true → decode i.format (encode i) = .ok i

/-- What bytes decode to is a well-formed instruction of that format, and its encoding is those bytes (R100, R121-R137):
no two byte strings are the same instruction. -/
def Obligations.EncodeDecode : Prop :=
  ∀ (f : Format) (b : Bytes) (i : Instr), decode f b = .ok i → i.wf = true ∧ i.format = f ∧ encode i = b

/-! ## The step -/

/-- A step runs the decoded transaction whole, then the arbiter (R16, R86, R290). That a step with no transaction to take
leaves the state as it is, is the model's choice (log entry 10). -/
def Obligations.StepRunsTransaction : Prop :=
  (∀ (s u : State) (t : Bytes) (i : Instr), fetch s = some (t, u) → decode .input t = .ok i →
    step s = (match exec i u with
      | .next v => arbiter v
      | .fault r => .fault r
      | .refused r => .refused r)) ∧
  (∀ s : State, s.input = [] → step s = .next s)

/-- A wire frame arrives in an RX_NOTIFY (R85, R126): the notification that carries a row's frame does what the row
does. That a frame row means the receipt of its frame is the model's choice (log entry 11). -/
def Obligations.FrameRowIsNotification : Prop :=
  ∀ (i : Instr) (p : FrameParts) (s : State), i.wf = true → i.frameParts = some p →
    decode .input (0x80 :: encode i) = .ok (.rxNotify (encode i)) ∧ exec (.rxNotify (encode i)) s = exec i s

/-- While ACKQ is full the RX transactions wait in their port and the first transaction of another port is taken; with
room in ACKQ the first transaction is taken (R243, R89). One list of waiting transactions for all the ports is the model's
choice (log entry 6); that a step leaves the state as it is when every waiting transaction is held is the model's choice too
(log entry 10). -/
def Obligations.HeldRxPort : Prop :=
  ∀ s : State,
    (s.params.ackqDepth ≤ s.ackq.length →
      (∀ xs t rest, s.input = xs ++ t :: rest → (∀ x ∈ xs, x.head? = some 0x80) → t.head? ≠ some 0x80 →
        step s = transact t { s with input := xs ++ rest }) ∧
      ((∀ x ∈ s.input, x.head? = some 0x80) → step s = .next s)) ∧
    (s.ackq.length < s.params.ackqDepth →
      ∀ t rest, s.input = t :: rest → step s = transact t { s with input := rest })

/-! ## Frame codec -/

/-- ENCODE lays a frame out as R100, R101 and R151 say, with the checksum of R154. -/
def Obligations.EncodeLayout : Prop :=
  ∀ (crc : Config.Crc) (f : Frame), f.payload.length ≤ 255 →
    encodeFrame crc f =
      [BitVec.ofNat 8 (f.cls.code.toNat + 4 * f.subtype.toNat), f.flags, f.seq, BitVec.ofNat 8 f.payload.length] ++
      f.payload ++
      (if f.flags.getLsbD 1 then
        let header := crc 0 [f.seq, BitVec.ofNat 8 f.payload.length]
        twoBytes (if f.payload = [] then header else crc header f.payload).toNat
      else [])

/-- The length of an encoded frame (R153). -/
def Obligations.EncodedLength : Prop :=
  ∀ (crc : Config.Crc) (f : Frame),
    (encodeFrame crc f).length = 4 + f.payload.length + 2 * (if f.flags.getLsbD 1 then 1 else 0)

/-- Round trip of the codec (R167). -/
def Obligations.FrameRoundTrip : Prop :=
  ∀ (crc : Config.Crc) (f : Frame), encodable f → decodeFrameValue crc (encodeFrame crc f) = .ok f

/-- Changing one payload byte of a frame with a checksum makes DECODE raise CHECKSUM_MISMATCH; without a checksum the
change goes undetected (R168). -/
def Obligations.ChecksumRejection : Prop :=
  ∀ (crc : Config.Crc) (f : Frame) (a b : Bytes) (x y : Byte), Config.CrcLaws crc → encodable f →
    f.payload = a ++ x :: b → y ≠ x →
    (f.flags.getLsbD 1 = true →
      decodeFrameValue crc ((encodeFrame crc f).set (4 + a.length) y) = .error .checksumMismatch) ∧
    (f.flags.getLsbD 1 = false →
      decodeFrameValue crc ((encodeFrame crc f).set (4 + a.length) y) = .ok { f with payload := a ++ y :: b })

/-- DECODE's checks in their order, and the fatal entry a failed one leads to (R160-R165). -/
def Obligations.DecodeChecks : Prop :=
  (∀ (crc : Config.Crc) (b : Bytes),
    decodeFrameValue crc b =
      let b0 := b.getD 0 0
      let flags := b.getD 1 0
      let seq := b.getD 2 0
      let n := b.getD 3 0
      let cs := flags.getLsbD 1
      if b.length < 4 then .error .truncatedFrame
      else if b.length ≠ 4 + n.toNat + 2 * cs.toNat then .error .lengthMismatch
      else if 2 ≤ b0.toNat % 4 then .error .reservedClass
      else if flags.getLsbD 0 = true then .error .encrypted
      else if cs = true ∧
          checksum crc seq n (slice b 4 (4 + n.toNat)) ≠ rd16 (b.getD (4 + n.toNat) 0) (b.getD (5 + n.toNat) 0) then
        .error .checksumMismatch
      else .ok ⟨if b0.toNat % 4 = 0 then .control else .data, BitVec.ofNat 6 (b0.toNat / 4), flags, seq,
        slice b 4 (4 + n.toNat)⟩) ∧
  (∀ (b : Bytes) (s : State) (c : FatalCode), s.sess = .ready → s.fatal = false →
    decodeFrameValue Config.crc16 b = .error c → exec (.rxNotify b) s = .next (fatalEntry c s))

/-! ## Fragmentation -/

/-- The frame count of a SEND, what its non-final and final fragments carry, and Scenario C (R182, R183). -/
def Obligations.SplitFrameCount : Prop :=
  ∀ (cap : Nat) (p : Bytes), 3 ≤ cap → cap ≤ 255 → p.length ≤ 65535 →
    (p.length ≤ cap → split cap p = [⟨p, false, p.length⟩]) ∧
    (cap < p.length →
      let k := (p.length - cap + (cap - 2) - 1) / (cap - 2)
      (split cap p).length = 1 + k ∧
      (∀ f ∈ (split cap p).take k, f.frag = true ∧ f.payload.length = 2 + (cap - 2)) ∧
      ∃ f, (split cap p)[k]? = some f ∧ f.frag = false ∧ f.payload.length = p.length - (cap - 2) * k ∧
        3 ≤ f.payload.length ∧ f.payload.length ≤ cap) ∧
    (p.length = 500 → cap = 47 →
      (split cap p).length = 12 ∧ (split cap p)[0]?.map (fun f => f.payload.take 2) = some [0xF4, 0x01] ∧
      (split cap p)[11]?.map (fun f => f.payload.length) = some 5)

/-- The fragment the arbiter sends next is no longer than CAP_EFF, hence than 255, and the frame that carries it
satisfies ENCODE's preconditions (R184, R152). -/
def Obligations.FragmentsFit : Prop :=
  ∀ (s : State) (seq : Byte), 3 ≤ s.cap.toNat →
    let f := nextFragment s.txLen.toNat s.txOff.toNat (min s.cap.toNat 255) (readBytes s.txBuf 0 s.txLen.toNat)
    f.payload.length ≤ min s.cap.toNat 255 ∧ encodable (sendFrame s seq f)

/-- Feeding the frames of one outbound split to REASSEMBLE, in order and consecutively numbered, delivers exactly one
message, at the last frame, whose payload is the one that was split (R198). -/
def Obligations.SplitRoundTrip : Prop :=
  ∀ (cap : Nat) (p : Bytes) (cls : FrameClass) (subtype : BitVec 6) (cs ack : Bool) (seq : Byte) (s : State),
    3 ≤ cap → p.length ≤ 65535 → s.raActive = false → bufferWf s.raBuf = true →
    let frames := numberFrames cls subtype cs ack seq (split cap p)
    ∃ m t u, feed frames s = some ([m], t) ∧ m.payload = p ∧ t.raActive = false ∧
      feed frames.dropLast s = some ([], u)

/-! ## Sequencer -/

/-- After 256 calls of SEQ_NEXT, TX_SEQ is what it was (R211). -/
def Obligations.SequenceWraps : Prop :=
  ∀ s : State, ((fun t => (seqNext t).2)^[256] s).txSeq = s.txSeq

/-- SEQ_CHECK (R212): the unsigned compare, the update of RX_EXP by either parameter value, nothing else written; and
its worked example. -/
def Obligations.SeqCheckRule : Prop :=
  (∀ (q : Byte) (s : State),
    seqCheck q s =
      if q.toNat < s.rxExp.toNat then .error .sequenceViolation
      else .ok { s with
        rxExp := match s.params.rxSeqUpdate with
          | .increment => BitVec.ofNat 8 (s.rxExp.toNat + 1)
          | .resync => BitVec.ofNat 8 (q.toNat + 1) }) ∧
  (∀ s u : State, s.rxExp = 0 → seqCheck 0 s = .ok u → u.rxExp = 1 ∧ seqCheck 0 u = .error .sequenceViolation)

/-! ## TX arbiter and reliability -/

/-- ARBITER (R245): nothing while a write is outstanding or the block is not READY or is fatal; else the automatic ACK at
the head of ACKQ; else the next frame of a SEND in ISSUE, registered when it asks for an ACK; else nothing. -/
def Obligations.ArbiterRule : Prop :=
  ∀ s : State,
    ((s.portBusy = true ∨ s.sess ≠ .ready ∨ s.fatal = true) → arbiter s = .next s) ∧
    (s.portBusy = false → s.sess = .ready → s.fatal = false →
      (∀ a rest, s.ackq = a :: rest →
        arbiter s = .next { s with
          ackq := rest
          txSeq := s.txSeq + 1
          portBusy := true
          portOwner := .autoAck
          out := s.out ++ [0xC0 :: encodeFrame Config.crc16 ⟨.control, 0, 0x02, s.txSeq, [a]⟩] }) ∧
      (s.ackq = [] → s.txState ≠ .issue → arbiter s = .next s) ∧
      (s.ackq = [] → s.txState = .issue →
        let f := nextFragment s.txLen.toNat s.txOff.toNat (min s.cap.toNat 255) (readBytes s.txBuf 0 s.txLen.toNat)
        let flags := BitVec.ofNat 8 (2 * s.txCs.toNat + 8 * s.txAckReq.toNat + 16 * f.frag.toNat)
        arbiter s = .next { s with
          txOff := BitVec.ofNat 16 f.off
          txLast := !f.frag
          txSeq := s.txSeq + 1
          txCurSeq := s.txSeq
          pendValid := s.txAckReq || s.pendValid
          pendSeq := if s.txAckReq then s.txSeq else s.pendSeq
          pendAcked := !s.txAckReq && s.pendAcked
          pendRemain := if s.txAckReq then 0 else s.pendRemain
          portBusy := true
          portOwner := .send
          txState := .writeWait
          out := s.out ++
            [0xC0 :: encodeFrame Config.crc16 ⟨s.txClass, s.txSubtype, flags, s.txSeq, f.payload⟩] }))

/-- The bytes of an automatic ACK (R242, R112). -/
def Obligations.AutomaticAckFrame : Prop :=
  ∀ (s : State) (a : Byte) (rest : Bytes), s.portBusy = false → s.sess = .ready → s.fatal = false →
    s.ackq = a :: rest →
    arbiter s = .next { s with
      ackq := rest
      txSeq := s.txSeq + 1
      portBusy := true
      portOwner := .autoAck
      out := s.out ++ [[0xC0, 0x00, 0x02, s.txSeq, 0x01, a] ++
        twoBytes (checksum Config.crc16 s.txSeq 1 [a]).toNat] }

/-! ## Host commands -/

/-- READY (R292). -/
def Obligations.ReadyRule : Prop :=
  ∀ (cap : Half) (s : State),
    (s.sess = .connecting → 3 ≤ cap.toNat →
      exec (.ready (.capacity cap)) s =
        .next { s with cap := cap, sess := .ready, linkOpen := true, out := s.out ++ [[0xC1, 0x01, 0x00, 0x00]] }) ∧
    (s.sess ≠ .connecting ∨ cap.toNat < 3 →
      exec (.ready (.capacity cap)) s = .next { s with out := s.out ++ [[0xC1, 0x01, 0x21, 0x00]] }) ∧
    (∀ rest, exec (.ready (.badLength rest)) s = .next { s with out := s.out ++ [[0xC1, 0x01, 0x21, 0x00]] })

/-- SEND's refusals in the order of R294; each changes nothing but the output stream. -/
def Obligations.SendRefusals : Prop :=
  ∀ (b0 opts : Byte) (timeout : Half) (p : Bytes) (s : State), p.length ≤ 65535 →
    let answered := exec (.send (.message b0 opts timeout p)) s
    let refused (status detail : Byte) : Host.Outcome State Fault Refusal :=
      .next { s with out := s.out ++ [[0xC1, 0x02, status, detail]] }
    let wellFormed := opts.toNat < 4 ∧ b0.toNat % 4 < 2
    let isControl := b0.toNat % 4 = 0
    (¬wellFormed → answered = refused 0x21 0) ∧
    (wellFormed → s.sess ≠ .ready → answered = refused 0x20 0) ∧
    (wellFormed → s.sess = .ready → s.fatal = true → answered = refused 0x23 s.fatalCode) ∧
    (wellFormed → s.sess = .ready → s.fatal = false → s.txState ≠ .idle → answered = refused 0x24 0) ∧
    (wellFormed → s.sess = .ready → s.fatal = false → s.txState = .idle →
      isControl → b0.toNat / 4 = 0 ∧ opts.getLsbD 0 = true ∨ min s.cap.toNat 255 < p.length →
      answered = refused 0x21 0) ∧
    (∀ rest, exec (.send (.badLength rest)) s = refused 0x21 0)

/-- SEND accepted (R294): the operands are latched, TX_BUF holds the payload and keeps every other byte, TX_STATE is
ISSUE, no event is emitted and nothing else changes. -/
def Obligations.SendAccepted : Prop :=
  ∀ (b0 opts : Byte) (timeout : Half) (p : Bytes) (s : State), p.length ≤ 65535 → bufferWf s.txBuf = true →
    opts.toNat < 4 → b0.toNat % 4 < 2 → s.sess = .ready → s.fatal = false → s.txState = .idle →
    (b0.toNat % 4 = 0 → ¬(b0.toNat / 4 = 0 ∧ opts.getLsbD 0 = true) ∧ p.length ≤ min s.cap.toNat 255) →
    ∃ buf : Buffer,
      exec (.send (.message b0 opts timeout p)) s = .next { s with
        txClass := if b0.toNat % 4 = 0 then .control else .data
        txSubtype := BitVec.ofNat 6 (b0.toNat / 4)
        txAckReq := opts.getLsbD 0
        txCs := opts.getLsbD 1
        txTimeout := if timeout = 0 then s.params.defaultAckTimeout else timeout
        txLen := BitVec.ofNat 16 p.length
        txOff := 0
        txLast := false
        txState := .issue
        txBuf := buf } ∧
      bufferWf buf = true ∧
      ∀ a, readByte buf a = if a < p.length then p.getD a 0 else readByte s.txBuf a

/-- CLOSE and its TEARDOWN (R296, R297). -/
def Obligations.CloseRule : Prop :=
  ∀ s : State,
    (s.sess = .closed →
      exec (.close .exact) s = .next { s with out := s.out ++ [[0xC1, 0x03, 0x00, 0x00]] }) ∧
    (s.sess ≠ .closed →
      exec (.close .exact) s = .next { s with
        sess := .closed
        linkOpen := false
        raActive := false
        raTarget := 0
        raCount := 0
        raClass := .control
        raSubtype := 0
        raSeq := 0
        raFlags := 0
        ackq := []
        pendValid := false
        pendAcked := false
        pendRemain := 0
        portBusy := false
        portOwner := .send
        txState := .idle
        out := s.out ++ (if s.txState = .idle then [] else [[0xC1, 0x02, 0x22, 0x00]]) ++
          (if s.linkOpen then [[0xC5]] else []) ++ [[0xC1, 0x03, 0x00, 0x00]] }) ∧
    (∀ rest, exec (.close (.badLength rest)) s = .next { s with out := s.out ++ [[0xC1, 0x03, 0x21, 0x00]] })

/-- LINK_DOWN and its TEARDOWN (R296, R310). -/
def Obligations.LinkDownRule : Prop :=
  ∀ s : State,
    (s.sess = .closed → exec .linkDown s = .next s) ∧
    (s.sess ≠ .closed →
      exec .linkDown s = .next { s with
        sess := .closed
        linkOpen := false
        raActive := false
        raTarget := 0
        raCount := 0
        raClass := .control
        raSubtype := 0
        raSeq := 0
        raFlags := 0
        ackq := []
        pendValid := false
        pendAcked := false
        pendRemain := 0
        portBusy := false
        portOwner := .send
        txState := .idle
        out := s.out ++ (if s.txState = .idle then [] else [[0xC1, 0x02, 0x06, 0x00]]) })

/-- QUERY answers the 27 bytes of R137 and changes nothing else (R298). Byte 26 counts ACKQ where a byte can count it; of
a longer ACKQ the statement claims no value there (log entry 4). -/
def Obligations.QueryRule : Prop :=
  ∀ s : State,
    (∃ count : Byte,
      exec (.query .exact) s = .next { s with
        out := s.out ++ [
          [0xC6,
            BitVec.ofNat 8
              ((match s.sess with | .connecting => 0 | .ready => 1 | .closed => 2) + 4 * s.linkOpen.toNat +
                8 * s.fatal.toNat + 16 * s.raActive.toNat + 32 * s.portBusy.toNat +
                64 * (match s.portOwner with | .send => 0 | .autoAck => 1) + 128 * s.pendValid.toNat),
            s.fatalCode, s.txSeq, s.rxExp] ++
          twoBytes s.cap.toNat ++
          [BitVec.ofNat 8
              ((match s.txState with | .idle => 0 | .issue => 1 | .writeWait => 2 | .ackWait => 3) +
                4 * s.txAckReq.toNat + 8 * s.txCs.toNat + 16 * s.txLast.toNat + 32 * s.pendAcked.toNat),
            BitVec.ofNat 8 ((match s.txClass with | .control => 0 | .data => 1) + 4 * s.txSubtype.toNat),
            s.txCurSeq] ++
          twoBytes s.txLen.toNat ++ twoBytes s.txOff.toNat ++ twoBytes s.txTimeout.toNat ++
          [s.pendSeq] ++
          twoBytes s.pendRemain.toNat ++ twoBytes s.raTarget.toNat ++ twoBytes s.raCount.toNat ++
          [BitVec.ofNat 8 ((match s.raClass with | .control => 0 | .data => 1) + 4 * s.raSubtype.toNat),
            s.raSeq, s.raFlags, count]] } ∧
      (s.ackq.length < 256 → count.toNat = s.ackq.length)) ∧
    (∀ rest, exec (.query (.badLength rest)) s = .next { s with out := s.out ++ [[0xC1, 0x04, 0x21, 0x00]] })

/-- Every CMD-port transaction with an unassigned tag or a wrong length is answered ILLEGAL_COMMAND with its own tag and
changes no state (R125, R291). -/
def Obligations.IllegalCommandsAnswered : Prop :=
  ∀ (tag : Byte) (rest : Bytes) (s : State),
    tag = 0x00 ∨ 5 ≤ tag.toNat ∧ tag.toNat ≤ 0x7F ∨
    tag = 0x01 ∧ rest.length ≠ 2 ∨
    tag = 0x02 ∧ rest.length ≠ 6 + ((rest.getD 4 0).toNat + 256 * (rest.getD 5 0).toNat) ∨
    tag = 0x03 ∧ rest ≠ [] ∨
    tag = 0x04 ∧ rest ≠ [] →
    ∃ i, decode .input (tag :: rest) = .ok i ∧
      exec i s = .next { s with out := s.out ++ [[0xC1, tag, 0x21, 0x00]] }

/-- The seven rows of unassigned CMD tags answer ILLEGAL_COMMAND (R125, R291). -/
def Obligations.CmdIllegalRows : Prop :=
  ∀ (rest : Bytes) (s : State),
    let answered (tag : Nat) : Host.Outcome State Fault Refusal :=
      .next { s with out := s.out ++ [[0xC1, BitVec.ofNat 8 tag, 0x21, 0x00]] }
    exec (.cmdIllegal00 rest) s = answered 0x00 ∧
    exec (.cmdIllegal05 rest) s = answered 0x05 ∧
    (∀ low, exec (.cmdIllegal06 low rest) s = answered (0x06 + low.toNat)) ∧
    (∀ low, exec (.cmdIllegal08 low rest) s = answered (0x08 + low.toNat)) ∧
    (∀ low, exec (.cmdIllegal10 low rest) s = answered (0x10 + low.toNat)) ∧
    (∀ low, exec (.cmdIllegal20 low rest) s = answered (0x20 + low.toNat)) ∧
    (∀ low, exec (.cmdIllegal40 low rest) s = answered (0x40 + low.toNat))

/-- The five rows of reserved tags are refused by name (R290, R315). -/
def Obligations.ReservedTagsRefused : Prop :=
  ∀ (rest : Bytes) (s : State),
    (∀ low, exec (.inputReserved84 low rest) s = .refused (.reservedTag (BitVec.ofNat 8 (0x84 + low.toNat)))) ∧
    (∀ low, exec (.inputReserved88 low rest) s = .refused (.reservedTag (BitVec.ofNat 8 (0x88 + low.toNat)))) ∧
    (∀ low, exec (.inputReserved90 low rest) s = .refused (.reservedTag (BitVec.ofNat 8 (0x90 + low.toNat)))) ∧
    (∀ low, exec (.inputReservedA0 low rest) s = .refused (.reservedTag (BitVec.ofNat 8 (0xA0 + low.toNat)))) ∧
    (∀ low, exec (.inputReservedC0 low rest) s = .refused (.reservedTag (BitVec.ofNat 8 (0xC0 + low.toNat))))

/-- A transaction with a reserved tag, and an event transaction of the wrong length, has no step and is refused by name;
LINK_DOWN is the one byte 0x83 (R129). -/
def Obligations.IllFormedEventsRefused : Prop :=
  decode .input [0x83] = .ok .linkDown ∧
  ∀ (tag : Byte) (rest : Bytes) (s : State),
    (0x84 ≤ tag.toNat → transact (tag :: rest) s = .refused (.reservedTag tag)) ∧
    (tag = 0x81 → rest.length ≠ 1 → transact (tag :: rest) s = .refused (.malformedEvent tag)) ∧
    (tag = 0x82 ∨ tag = 0x83 → rest ≠ [] → transact (tag :: rest) s = .refused (.malformedEvent tag))

/-! ## Transport and timebase events -/

/-- WRITE_DONE (R305, R231, R233, R234, R244). -/
def Obligations.WriteDoneRule : Prop :=
  ∀ (st : Byte) (s : State),
    (s.portBusy = false → exec (.writeDone st) s = .next { s with out := s.out ++ [[0xC3, 0x03, 0x00]] }) ∧
    (s.portBusy = true → s.portOwner = .autoAck →
      exec (.writeDone st) s = .next { s with
        portBusy := false
        out := s.out ++ if st = 0 then [] else [[0xC3, 0x04, 0x00]] }) ∧
    (s.portBusy = true → s.portOwner = .send → s.txState ≠ .writeWait →
      exec (.writeDone st) s = .next { s with portBusy := false }) ∧
    (s.portBusy = true → s.portOwner = .send → s.txState = .writeWait → st ≠ 0 →
      exec (.writeDone st) s = .next { s with
        portBusy := false
        pendValid := false
        pendAcked := false
        txState := .idle
        out := s.out ++ [[0xC1, 0x02, 0x06, 0x00]] }) ∧
    (s.portBusy = true → s.portOwner = .send → s.txState = .writeWait → st = 0 →
      s.txAckReq = true ∧ s.pendAcked = false →
      exec (.writeDone st) s = .next { s with portBusy := false, pendRemain := s.txTimeout, txState := .ackWait }) ∧
    (s.portBusy = true → s.portOwner = .send → s.txState = .writeWait → st = 0 →
      ¬(s.txAckReq = true ∧ s.pendAcked = false) →
      exec (.writeDone st) s = .next { s with
        portBusy := false
        pendAcked := false
        txState := if s.txLast then .idle else .issue
        out := s.out ++ if s.txLast then [[0xC1, 0x02, 0x00, 0x00]] else [] })

/-- TICK (R236): it counts only in ACK_WAIT, and the last tick ends the SEND with ACK_TIMEOUT. -/
def Obligations.TickRule : Prop :=
  ∀ s : State,
    (¬(s.pendValid = true ∧ s.txState = .ackWait) → exec .tick s = .next s) ∧
    (s.pendValid = true → s.txState = .ackWait → 2 ≤ s.pendRemain.toNat →
      exec .tick s = .next { s with pendRemain := BitVec.ofNat 16 (s.pendRemain.toNat - 1) }) ∧
    (s.pendValid = true → s.txState = .ackWait → s.pendRemain.toNat = 1 →
      exec .tick s = .next { s with
        pendRemain := 0
        pendValid := false
        txState := .idle
        out := s.out ++ [[0xC1, 0x02, 0x05, 0x00]] })

/-- Timeout law (R249): with no ACK, the TX_TIMEOUT-th TICK after the WRITE_DONE(ok) of a frame that asks for one ends the
SEND with ACK_TIMEOUT and frees the record; no earlier TICK does anything but count. -/
def Obligations.TimeoutLaw : Prop :=
  ∀ s : State, Sound s → s.txState = .writeWait → s.txAckReq = true → s.pendAcked = false →
    ∃ v, transact [0x81, 0x00] s = .next v ∧
      (∀ k, k < s.txTimeout.toNat →
        transactAll (List.replicate k [0x82]) v =
          .next { v with pendRemain := BitVec.ofNat 16 (s.txTimeout.toNat - k) }) ∧
      v.pendValid = true ∧
      transactAll (List.replicate s.txTimeout.toNat [0x82]) v = .next { v with
        pendRemain := 0
        pendValid := false
        txState := .idle
        out := v.out ++ [[0xC1, 0x02, 0x05, 0x00]] }

/-- ACK correlation (R248), for a SEND that finds the write port free: once its write completes, an ACK that names the
sequence of its frame completes it, and an ACK that names another leaves it pending and is logged. -/
def Obligations.AckCorrelation : Prop :=
  ∀ (s : State) (b0 opts : Byte) (timeout : Half) (p : Bytes) (t : FrameTail) (a : Byte) (more : Bytes),
    Sound s → s.sess = .ready → s.fatal = false → s.txState = .idle → s.raActive = false → s.portBusy = false →
    p.length ≤ min s.cap.toNat 255 → opts.toNat < 4 → opts.getLsbD 0 = true → b0.toNat % 4 < 2 → b0 ≠ 0 →
    intact t → fragFlag t.flags = false → t.payload = a :: more → s.rxExp ≤ t.seq →
    ∃ u, transactAll [encode (.send (.message b0 opts timeout p)), [0x81, 0x00]] s = .next u ∧
      u.txState = .ackWait ∧ u.pendValid = true ∧ u.pendSeq = s.txSeq ∧
      ∃ v, transact (0x80 :: encode (.ctrlAck t)) u = .next v ∧
        (a = s.txSeq → v.txState = .idle ∧ v.pendValid = false ∧ v.out = u.out ++ [[0xC1, 0x02, 0x00, 0x00]]) ∧
        (a ≠ s.txSeq → v.txState = .ackWait ∧ v.pendValid = true ∧ v.pendSeq = s.txSeq ∧
          v.out = u.out ++ [[0xC3, 0x01, a]])

/-- A whole SEND without acknowledgement on the wire (R181, R183, R234, R245, R251), for a SEND that finds the write port
free: the SEND and one WRITE_DONE(ok) for each frame emit the frames of the split in order, consecutively numbered, then
CMD_DONE OK. -/
def Obligations.WholeSend : Prop :=
  ∀ (s : State) (b0 opts : Byte) (timeout : Half) (p : Bytes),
    Sound s → s.sess = .ready → s.fatal = false → s.txState = .idle → s.portBusy = false →
    p.length ≤ 65535 → opts.toNat < 4 → opts.getLsbD 0 = false → b0.toNat % 4 < 2 →
    (b0.toNat % 4 = 0 → p.length ≤ min s.cap.toNat 255) →
    let fragments := split (min s.cap.toNat 255) p
    let frames := numberFrames (if b0.toNat % 4 = 0 then .control else .data) (BitVec.ofNat 6 (b0.toNat / 4))
      (opts.getLsbD 1) false s.txSeq fragments
    ∃ t, transactAll (encode (.send (.message b0 opts timeout p)) :: List.replicate fragments.length [0x81, 0x00]) s =
        .next t ∧
      t.out = s.out ++ frames.map (fun f => 0xC0 :: encodeFrame Config.crc16 f) ++ [[0xC1, 0x02, 0x00, 0x00]] ∧
      t.txState = .idle ∧ t.txSeq = s.txSeq + BitVec.ofNat 8 fragments.length

/-! ## Inbound frames -/

/-- While the block is not listening a notification, and a frame of any row, only logs RX_IGNORED (R301). -/
def Obligations.NotListeningIgnored : Prop :=
  ∀ s : State, s.sess ≠ .ready ∨ s.fatal = true →
    (∀ b, exec (.rxNotify b) s = .next { s with out := s.out ++ [[0xC3, 0x02, 0x00]] }) ∧
    (∀ (i : Instr) (p : FrameParts), i.frameParts = some p →
      exec i s = .next { s with out := s.out ++ [[0xC3, 0x02, 0x00]] })

/-- An unfragmented frame of each Control row but ACK, outside a reassembly, is delivered verbatim and owes no ACK
(R195, R241, R261, R263). -/
def Obligations.ControlMessagesDelivered : Prop :=
  ∀ (t : FrameTail) (s : State), s.sess = .ready → s.fatal = false → s.raActive = false → intact t →
    fragFlag t.flags = false → s.rxExp ≤ t.seq →
    let delivered (subtype : Nat) : Host.Outcome State Fault Refusal :=
      .next { s with
        rxExp := nextExpected s t.seq
        out := s.out ++ [deliverEvent (BitVec.ofNat 8 (4 * subtype)) t.seq t.flags t.payload] }
    exec (.ctrlSetSecurityMode t) s = delivered 1 ∧
    exec (.ctrlSetOpMode t) s = delivered 2 ∧
    exec (.ctrlConnectWifi t) s = delivered 3 ∧
    exec (.ctrlDisconnectWifi t) s = delivered 4 ∧
    exec (.ctrlGetWifiStatus t) s = delivered 5 ∧
    exec (.ctrlDeauthenticate t) s = delivered 6 ∧
    exec (.ctrlGetVersion t) s = delivered 7 ∧
    exec (.ctrlCloseConnection t) s = delivered 8 ∧
    exec (.ctrlGetWifiList t) s = delivered 9 ∧
    (∀ subtype, 10 ≤ subtype.toNat → exec (.ctrlOther subtype t) s = delivered subtype.toNat)

/-- An unfragmented frame of each Data row, outside a reassembly, is delivered verbatim; with its ACK flag set its
sequence joins ACKQ under either policy (R195, R240, R261, R263). -/
def Obligations.DataMessagesDelivered : Prop :=
  ∀ (t : FrameTail) (s : State), s.sess = .ready → s.fatal = false → s.raActive = false → intact t →
    fragFlag t.flags = false → s.rxExp ≤ t.seq →
    let delivered (subtype : Nat) : Host.Outcome State Fault Refusal :=
      .next { s with
        rxExp := nextExpected s t.seq
        ackq := s.ackq ++ if t.flags.getLsbD 3 then [t.seq] else []
        out := s.out ++ [deliverEvent (BitVec.ofNat 8 (1 + 4 * subtype)) t.seq t.flags t.payload] }
    exec (.dataSoftapMaxConnectionCount t) s = delivered 6 ∧
    exec (.dataSoftapAuthMode t) s = delivered 7 ∧
    exec (.dataSoftapChannel t) s = delivered 8 ∧
    exec (.dataWifiConnectionState t) s = delivered 15 ∧
    exec (.dataVersion t) s = delivered 16 ∧
    exec (.dataWifiList t) s = delivered 17 ∧
    exec (.dataError t) s = delivered 18 ∧
    exec (.dataCustomData t) s = delivered 19 ∧
    (∀ subtype, exec (.dataOther subtype t) s = delivered subtype.toNat)

/-- A notification that is one unfragmented frame without checksum, of any class and subtype but Control/ACK, is
delivered verbatim (R100, R133, R261, R263, R300). -/
def Obligations.PlainNotificationDelivered : Prop :=
  ∀ (b0 flags seq : Byte) (p : Bytes) (s : State), s.sess = .ready → s.fatal = false → s.raActive = false →
    b0 ≠ 0 → b0.toNat % 4 < 2 → flags.getLsbD 0 = false → flags.getLsbD 1 = false → flags.getLsbD 4 = false →
    p.length ≤ 255 → s.rxExp ≤ seq →
    exec (.rxNotify ([b0, flags, seq, BitVec.ofNat 8 p.length] ++ p)) s = .next { s with
      rxExp := nextExpected s seq
      ackq := s.ackq ++ if b0.toNat % 4 = 1 ∧ flags.getLsbD 3 = true then [seq] else []
      out := s.out ++ [deliverEvent b0 seq flags p] }

/-- ACK_RESOLVE on an unfragmented Control/ACK frame outside a reassembly (R232, R233, R234). -/
def Obligations.AckResolves : Prop :=
  ∀ (t : FrameTail) (s : State), s.sess = .ready → s.fatal = false → s.raActive = false → intact t →
    fragFlag t.flags = false → s.rxExp ≤ t.seq →
    let v := { s with rxExp := nextExpected s t.seq }
    (t.payload = [] → exec (.ctrlAck t) s = .next (fatalEntry .malformedAck v)) ∧
    (∀ a more, t.payload = a :: more →
      (s.pendValid = true ∧ s.pendSeq = a → s.txState = .ackWait →
        exec (.ctrlAck t) s = .next { v with
          pendValid := false
          pendRemain := 0
          txState := if s.txLast then .idle else .issue
          out := s.out ++ if s.txLast then [[0xC1, 0x02, 0x00, 0x00]] else [] }) ∧
      (s.pendValid = true ∧ s.pendSeq = a → s.txState = .writeWait →
        exec (.ctrlAck t) s = .next { v with pendValid := false, pendAcked := true }) ∧
      (¬(s.pendValid = true ∧ s.pendSeq = a) →
        exec (.ctrlAck t) s = .next { v with out := s.out ++ [[0xC3, 0x01, a]] }))

/-- A received frame of class 2 or 3 whose length is right raises RESERVED_CLASS, whatever else is wrong with it (R162,
R165). -/
def Obligations.ReservedClassFatal : Prop :=
  ∀ (low : BitVec 1) (subtype : BitVec 6) (t : FrameTail) (s : State), s.sess = .ready → s.fatal = false → t.wf = true →
    exec (.reservedClass low subtype t) s = .next (fatalEntry .reservedClass s)

/-- A Control frame with FRAG = 1 raises CONTROL_FRAGMENTED, after SEQ_CHECK (R188, R300, R341). -/
def Obligations.ControlFragmentFatal : Prop :=
  ∀ (i : Instr) (subtype : BitVec 6) (t : FrameTail) (s : State), i.frameParts = some ⟨0, subtype, t⟩ →
    s.sess = .ready → s.fatal = false → intact t → fragFlag t.flags = true → s.rxExp ≤ t.seq →
    exec i s = .next (fatalEntry .controlFragmented { s with rxExp := nextExpected s t.seq })

/-- A fragment with FRAG = 1 and fewer than 2 payload bytes raises FRAGMENT_TOO_SHORT, the first as well as a
continuation (R196). -/
def Obligations.FragmentTooShort : Prop :=
  ∀ (i : Instr) (subtype : BitVec 6) (t : FrameTail) (s : State), i.frameParts = some ⟨1, subtype, t⟩ →
    s.sess = .ready → s.fatal = false → intact t → fragFlag t.flags = true → t.payload.length < 2 → s.rxExp ≤ t.seq →
    exec i s = .next (fatalEntry .fragmentTooShort { s with rxExp := nextExpected s t.seq })

/-- The first fragment (R191, R193, R194, R197 item 5): its count is the target, its class, subtype, sequence and flags
the anchor, its data the first bytes of RA_BUF; every other byte of RA_BUF stays. Data that reach the target are
delivered at once, data beyond it are an overflow. -/
def Obligations.FirstFragment : Prop :=
  ∀ (i : Instr) (subtype : BitVec 6) (t : FrameTail) (lo hi : Byte) (data : Bytes) (s : State),
    i.frameParts = some ⟨1, subtype, t⟩ → s.sess = .ready → s.fatal = false → s.raActive = false → intact t →
    fragFlag t.flags = true → t.payload = lo :: hi :: data → s.rxExp ≤ t.seq → bufferWf s.raBuf = true →
    let target := lo.toNat + 256 * hi.toNat
    let v := { s with rxExp := nextExpected s t.seq }
    let b0 : Byte := BitVec.ofNat 8 (1 + 4 * subtype.toNat)
    (target < data.length → exec i s = .next (fatalEntry .fragmentOverflow v)) ∧
    (data.length ≤ target → ∃ buf : Buffer,
      bufferWf buf = true ∧ (∀ a, readByte buf a = if a < data.length then data.getD a 0 else readByte s.raBuf a) ∧
      (data.length < target →
        exec i s = .next { v with
          raActive := true
          raTarget := BitVec.ofNat 16 target
          raCount := BitVec.ofNat 16 data.length
          raClass := .data
          raSubtype := subtype
          raSeq := t.seq
          raFlags := t.flags
          raBuf := buf
          ackq := s.ackq ++ if s.params.ackPolicy = .perFrame ∧ t.flags.getLsbD 3 = true then [t.seq] else [] }) ∧
      (data.length = target →
        exec i s = .next { v with
          raTarget := 0
          raCount := 0
          raClass := .control
          raSubtype := 0
          raSeq := 0
          raFlags := 0
          raBuf := buf
          ackq := s.ackq ++ if t.flags.getLsbD 3 = true then [t.seq] else []
          out := s.out ++ [deliverEvent b0 t.seq t.flags data] }))

/-- A frame while a reassembly is open (R192, R193, R194, R197, R383): its data, without its own prefix where FRAG = 1,
are appended whatever its class and subtype; at the target the message is delivered under the anchor's identity; beyond
it FRAGMENT_OVERFLOW is raised. -/
def Obligations.ReassemblyContinues : Prop :=
  ∀ (i : Instr) (cls : FrameClass) (subtype : BitVec 6) (t : FrameTail) (s : State),
    i.frameParts = some ⟨cls.code, subtype, t⟩ → s.sess = .ready → s.fatal = false → s.raActive = true →
    s.raClass = .data → intact t → ¬(cls = .control ∧ fragFlag t.flags = true) →
    (fragFlag t.flags = true → 2 ≤ t.payload.length) → s.rxExp ≤ t.seq → bufferWf s.raBuf = true →
    let data := if fragFlag t.flags then t.payload.drop 2 else t.payload
    let count := s.raCount.toNat + data.length
    let v := { s with rxExp := nextExpected s t.seq }
    let owedForFrame := if s.params.ackPolicy = .perFrame ∧ cls = .data ∧ t.flags.getLsbD 3 = true then [t.seq] else []
    let owedForMessage := if s.params.ackPolicy = .perDelivery ∧ s.raFlags.getLsbD 3 = true then [s.raSeq] else []
    let b0 : Byte := BitVec.ofNat 8 (1 + 4 * s.raSubtype.toNat)
    (s.raTarget.toNat < count → exec i s = .next (fatalEntry .fragmentOverflow v)) ∧
    (count ≤ s.raTarget.toNat → ∃ buf : Buffer,
      bufferWf buf = true ∧
      (∀ a, readByte buf a =
        if s.raCount.toNat ≤ a ∧ a < count then data.getD (a - s.raCount.toNat) 0 else readByte s.raBuf a) ∧
      (count < s.raTarget.toNat →
        exec i s = .next { v with
          raCount := BitVec.ofNat 16 count
          raBuf := buf
          ackq := s.ackq ++ owedForFrame }) ∧
      (count = s.raTarget.toNat →
        exec i s = .next { v with
          raActive := false
          raTarget := 0
          raCount := 0
          raClass := .control
          raSubtype := 0
          raSeq := 0
          raFlags := 0
          raBuf := buf
          ackq := s.ackq ++ owedForFrame ++ owedForMessage
          out := s.out ++ [deliverEvent b0 s.raSeq s.raFlags (readBytes s.raBuf 0 s.raCount.toNat ++ data)] }))

/-- A frame whose sequence is below RX_EXP raises SEQUENCE_VIOLATION before it is copied; the reassembly is dropped and
nothing is delivered (R199, R212). -/
def Obligations.SequenceViolation : Prop :=
  ∀ (i : Instr) (cls : FrameClass) (subtype : BitVec 6) (t : FrameTail) (s : State),
    i.frameParts = some ⟨cls.code, subtype, t⟩ → s.sess = .ready → s.fatal = false → intact t → t.seq < s.rxExp →
    exec i s = .next (fatalEntry .sequenceViolation s) ∧
    (fatalEntry .sequenceViolation s).raActive = false ∧ (fatalEntry .sequenceViolation s).raBuf = s.raBuf ∧
    ∃ evs, (fatalEntry .sequenceViolation s).out = s.out ++ evs ∧ evs.countP isDeliver = 0

/-! ## The fatal entry -/

/-- The fatal entry (R340) and the numbers of the codes (R331). -/
def Obligations.FatalEntryRule : Prop :=
  (∀ (c : FatalCode) (s : State),
    fatalEntry c s = { s with
      fatal := true
      fatalCode := c.code
      raActive := false
      raTarget := 0
      raCount := 0
      raClass := .control
      raSubtype := 0
      raSeq := 0
      raFlags := 0
      ackq := []
      pendValid := false
      pendAcked := false
      pendRemain := 0
      txState := .idle
      out := s.out ++ [[0xC4, c.code]] ++ if s.txState = .idle then [] else [[0xC1, 0x02, 0x23, c.code]] }) ∧
  [FatalCode.encrypted, .checksumMismatch, .sequenceViolation, .fragmentOverflow, .truncatedFrame, .lengthMismatch,
    .reservedClass, .fragmentTooShort, .controlFragmented, .malformedAck].map FatalCode.code =
    [0x01, 0x02, 0x03, 0x04, 0x10, 0x11, 0x12, 0x13, 0x14, 0x15]

/-- The fatal entry is precise (R341): of what the notification changed before the error only RX_EXP survives, only after
one of the four late errors, and no event precedes the entry's own. -/
def Obligations.FatalPrecision : Prop :=
  ∀ (b : Bytes) (s t : State), (s.raActive = true → s.raClass = .data) → s.fatal = false →
    exec (.rxNotify b) s = .next t → t.fatal = true →
    ∃ c, t = fatalEntry c { s with rxExp := t.rxExp } ∧
      (c ∉ [FatalCode.controlFragmented, .fragmentTooShort, .fragmentOverflow, .malformedAck] → t.rxExp = s.rxExp)

/-- A fatal state stays fatal under every step, with the first error's code; no second fatal error is raised and no
frame is sent (R343, R344, R391). -/
def Obligations.FatalSticky : Prop :=
  ∀ s t : State, s.fatal = true → step s = .next t →
    t.fatal = true ∧ t.fatalCode = s.fatalCode ∧
    ∃ evs, t.out = s.out ++ evs ∧ evs.countP isFatalEvent = 0 ∧ evs.countP isTxWrite = 0

/-! ## The whole machine -/

/-- The state after reset satisfies the invariants (R53, R370), whatever legal parameters the machine is made with. -/
def Obligations.InvariantAtReset : Prop :=
  Sound State.reset ∧ ∀ (p : Params) (input out : List Bytes), LegalParams p → Sound (State.resetWith p input out)

/-- Every step keeps the invariants of R53, together with the further clauses of `Sound` that make them inductive. -/
def Obligations.InvariantKept : Prop :=
  ∀ s t : State, Sound s → step s = .next t → Sound t

/-- No rule calls a buffer primitive outside the buffers (R94): no instruction and no step faults. -/
def Obligations.NoStepFaults : Prop :=
  (∀ (i : Instr) (s : State) (r : Fault), exec i s ≠ .fault r) ∧ ∀ (s : State) (r : Fault), step s ≠ .fault r

/-- A step issues at most one frame, last among its events and numbered by TX_SEQ, which moves on by exactly one for it;
it issues none while a write is outstanding, unless the step is the WRITE_DONE that completes that write; and it delivers
at most one message (R16, R84, R90, R210, R245, R246, R276). -/
def Obligations.OneWritePerStep : Prop :=
  ∀ s t : State, step s = .next t →
    ∃ evs, t.out = s.out ++ evs ∧ evs.countP isDeliver ≤ 1 ∧
      (evs.countP isTxWrite = 0 ∧ t.txSeq = s.txSeq ∨
       ∃ pre f, evs = pre ++ [0xC0 :: encodeFrame Config.crc16 f] ∧ pre.countP isTxWrite = 0 ∧
         f.seq = s.txSeq ∧ t.txSeq = s.txSeq + 1 ∧ t.portBusy = true ∧
         (s.portBusy = false ∨ ∃ st u, fetch s = some ([0x81, st], u)))

/-- Every frame the block sends meets ENCODE's preconditions, has DIR = 0, is no fragment when it is a Control frame, and
asks for no ACK when it is an ACK (R104, R109, R151, R152, R187, R252). -/
def Obligations.EmittedFramesLegal : Prop :=
  ∀ s t : State, Sound s → step s = .next t →
    ∃ evs, t.out = s.out ++ evs ∧ ∀ e ∈ evs, isTxWrite e = true →
      ∃ f, e = 0xC0 :: encodeFrame Config.crc16 f ∧ encodable f ∧ f.flags.getLsbD 2 = false ∧
        (f.cls = .control → f.flags.getLsbD 4 = false) ∧
        (f.cls = .control → f.subtype = 0 → f.flags.getLsbD 3 = false)

/-- Every event a step emits is the encoding of an output row (R130-R137). -/
def Obligations.EmittedEventsDecode : Prop :=
  ∀ s t : State, step s = .next t →
    ∃ evs, t.out = s.out ++ evs ∧ ∀ e ∈ evs, ∃ i, decode .output e = .ok i ∧ i.wf = true ∧ encode i = e

/-- A SEND in progress ends exactly once: a step emits one CMD_DONE that ends it when the step leaves TX_STATE idle, and
none while it goes on (R235, R294). -/
def Obligations.SendEndsOnce : Prop :=
  ∀ s t : State, Sound s → s.txState ≠ .idle → step s = .next t →
    ∃ evs, t.out = s.out ++ evs ∧
      evs.countP (fun e => isSendDone e && isSendEnd e) = if t.txState = .idle then 1 else 0

/-- No output depends on a buffer byte that neither the current SEND nor the current reassembly wrote (R372): from two
states that differ only in such bytes a step does the same, and the states after it differ only in such bytes. -/
def Obligations.BufferDrawsUnobservable : Prop :=
  ∀ s u : State, SameButUnread s u →
    (∀ t, step s = .next t → ∃ v, step u = .next v ∧ SameButUnread t v ∧ v.out = t.out) ∧
    (∀ r, step s = .refused r → step u = .refused r)

/-- SESS changes only by a legal READY, a CLOSE or a LINK_DOWN, and CLOSED is left by none (R33, R312). -/
def Obligations.SessionTransitions : Prop :=
  ∀ s t : State, step s = .next t →
    t.sess = s.sess ∨
    ∃ b u i, fetch s = some (b, u) ∧ decode .input b = .ok i ∧
      (s.sess = .connecting ∧ t.sess = .ready ∧ (∃ cap, i = .ready (.capacity cap) ∧ 3 ≤ cap.toNat ∧ t.cap = cap) ∨
       s.sess ≠ .closed ∧ t.sess = .closed ∧ (i = .close .exact ∨ i = .linkDown))

/-- Reset (R370, R371): every register is 0, ACKQ empty, no event emitted; the block waits in CONNECTING with no port
masked; its snapshot is zero; and the parameters fixed at reset never change. The parameters State.reset has (log entry 2)
and the step that waits (log entry 10) are the model's choice. -/
def Obligations.ResetState : Prop :=
  (∀ p input out, ∃ txBuf raBuf, State.resetWith p input out =
    ⟨p, .connecting, false, false, false, false, .send, false, 0, 0, 0, 0, .idle, false, false, false, false, .control,
      0, 0, 0, 0, 0, 0, 0, 0, 0, .control, 0, 0, 0, [], txBuf, raBuf, input, out⟩) ∧
  State.reset = State.resetWith Params.initial [] [] ∧
  step State.reset = .next State.reset ∧ rxEnabled State.reset = true ∧
  (transact [0x04] State.reset = .next { State.reset with out := [0xC6 :: List.replicate 26 0] }) ∧
  (∀ s t : State, step s = .next t → t.params = s.params)

/-- Each output row appends its one event, in the layout of R131-R137, and changes nothing else (R15). That an output row
runs as this primitive is the model's choice (log entry 8). -/
def Obligations.OutputRowsEmit : Prop :=
  ∀ s : State,
    let emitted (e : Bytes) : Host.Outcome State Fault Refusal := .next { s with out := s.out ++ [e] }
    (∀ frame, exec (.txWrite frame) s = emitted (0xC0 :: frame)) ∧
    (∀ op status detail, exec (.cmdDone op status detail) s = emitted [0xC1, op, status, detail]) ∧
    (∀ b0 seq flags p, exec (.deliver b0 seq flags p) s = emitted (deliverEvent b0 seq flags p)) ∧
    (∀ code arg, exec (.log code arg) s = emitted [0xC3, code, arg]) ∧
    (∀ code, exec (.fatal code) s = emitted [0xC4, code]) ∧
    exec .release s = emitted [0xC5] ∧
    (∀ snap, exec (.queryResp snap) s = emitted (0xC6 :: snap))

/-! ## What the host and the consumer see -/

/-- The WIFI_LIST layout read back (R265, R266), and Scenario B (R273). -/
def Obligations.WifiListParses : Prop :=
  (∀ entries : List (Byte × Bytes), (∀ e ∈ entries, e.2.length ≤ 254) →
    Payload.wifiList (entries.flatMap fun e => BitVec.ofNat 8 (e.2.length + 1) :: e.1 :: e.2) =
      some (entries.map fun e =>
        ⟨BitVec.ofNat 8 (e.2.length + 1), if e.1.toNat < 128 then (e.1.toNat : Int) else (e.1.toNat : Int) - 256, e.2⟩)) ∧
  Payload.wifiList [0x06, 0xC8, 0x41, 0x42, 0x43, 0x44, 0x45, 0x04, 0xC0, 0x57, 0x69, 0x46] =
    some [⟨6, -56, [0x41, 0x42, 0x43, 0x44, 0x45]⟩, ⟨4, -64, [0x57, 0x69, 0x46]⟩]

/-- The two pseudo-instructions whose payload the source gives are these SENDs (R141). -/
def Obligations.PseudoInstructions : Prop :=
  encode pseudoGetVersion = [0x02, 0x1C, 0x03, 0x00, 0x00, 0x00, 0x00] ∧
  ∀ bytes, encode (pseudoSendCustomData bytes) = [0x02, 0x4D, 0x03, 0x00, 0x00] ++ twoBytes bytes.length ++ bytes
end

