-- ==== Sys2Proof/Laws/State.lean ====
section
/-! SUPPORT. One lemma per field per state update, each true by rfl: what an update writes, and that it leaves every
other field alone. -/

namespace Sys2Proof.Machine

variable (s : State)

/-! ## emit -/

@[simp] theorem emit_params (e : Bytes) : (emit e s).params = s.params := rfl
@[simp] theorem emit_sess (e : Bytes) : (emit e s).sess = s.sess := rfl
@[simp] theorem emit_linkOpen (e : Bytes) : (emit e s).linkOpen = s.linkOpen := rfl
@[simp] theorem emit_fatal (e : Bytes) : (emit e s).fatal = s.fatal := rfl
@[simp] theorem emit_raActive (e : Bytes) : (emit e s).raActive = s.raActive := rfl
@[simp] theorem emit_portBusy (e : Bytes) : (emit e s).portBusy = s.portBusy := rfl
@[simp] theorem emit_portOwner (e : Bytes) : (emit e s).portOwner = s.portOwner := rfl
@[simp] theorem emit_pendValid (e : Bytes) : (emit e s).pendValid = s.pendValid := rfl
@[simp] theorem emit_fatalCode (e : Bytes) : (emit e s).fatalCode = s.fatalCode := rfl
@[simp] theorem emit_txSeq (e : Bytes) : (emit e s).txSeq = s.txSeq := rfl
@[simp] theorem emit_rxExp (e : Bytes) : (emit e s).rxExp = s.rxExp := rfl
@[simp] theorem emit_cap (e : Bytes) : (emit e s).cap = s.cap := rfl
@[simp] theorem emit_txState (e : Bytes) : (emit e s).txState = s.txState := rfl
@[simp] theorem emit_txAckReq (e : Bytes) : (emit e s).txAckReq = s.txAckReq := rfl
@[simp] theorem emit_txCs (e : Bytes) : (emit e s).txCs = s.txCs := rfl
@[simp] theorem emit_txLast (e : Bytes) : (emit e s).txLast = s.txLast := rfl
@[simp] theorem emit_pendAcked (e : Bytes) : (emit e s).pendAcked = s.pendAcked := rfl
@[simp] theorem emit_txClass (e : Bytes) : (emit e s).txClass = s.txClass := rfl
@[simp] theorem emit_txSubtype (e : Bytes) : (emit e s).txSubtype = s.txSubtype := rfl
@[simp] theorem emit_txCurSeq (e : Bytes) : (emit e s).txCurSeq = s.txCurSeq := rfl
@[simp] theorem emit_txLen (e : Bytes) : (emit e s).txLen = s.txLen := rfl
@[simp] theorem emit_txOff (e : Bytes) : (emit e s).txOff = s.txOff := rfl
@[simp] theorem emit_txTimeout (e : Bytes) : (emit e s).txTimeout = s.txTimeout := rfl
@[simp] theorem emit_pendSeq (e : Bytes) : (emit e s).pendSeq = s.pendSeq := rfl
@[simp] theorem emit_pendRemain (e : Bytes) : (emit e s).pendRemain = s.pendRemain := rfl
@[simp] theorem emit_raTarget (e : Bytes) : (emit e s).raTarget = s.raTarget := rfl
@[simp] theorem emit_raCount (e : Bytes) : (emit e s).raCount = s.raCount := rfl
@[simp] theorem emit_raClass (e : Bytes) : (emit e s).raClass = s.raClass := rfl
@[simp] theorem emit_raSubtype (e : Bytes) : (emit e s).raSubtype = s.raSubtype := rfl
@[simp] theorem emit_raSeq (e : Bytes) : (emit e s).raSeq = s.raSeq := rfl
@[simp] theorem emit_raFlags (e : Bytes) : (emit e s).raFlags = s.raFlags := rfl
@[simp] theorem emit_ackq (e : Bytes) : (emit e s).ackq = s.ackq := rfl
@[simp] theorem emit_txBuf (e : Bytes) : (emit e s).txBuf = s.txBuf := rfl
@[simp] theorem emit_raBuf (e : Bytes) : (emit e s).raBuf = s.raBuf := rfl
@[simp] theorem emit_input (e : Bytes) : (emit e s).input = s.input := rfl
@[simp] theorem emit_out (e : Bytes) : (emit e s).out = s.out ++ [e] := rfl

/-! ## clearReassembly -/

@[simp] theorem clearReassembly_params : (clearReassembly s).params = s.params := rfl
@[simp] theorem clearReassembly_sess : (clearReassembly s).sess = s.sess := rfl
@[simp] theorem clearReassembly_linkOpen : (clearReassembly s).linkOpen = s.linkOpen := rfl
@[simp] theorem clearReassembly_fatal : (clearReassembly s).fatal = s.fatal := rfl
@[simp] theorem clearReassembly_raActive : (clearReassembly s).raActive = false := rfl
@[simp] theorem clearReassembly_portBusy : (clearReassembly s).portBusy = s.portBusy := rfl
@[simp] theorem clearReassembly_portOwner : (clearReassembly s).portOwner = s.portOwner := rfl
@[simp] theorem clearReassembly_pendValid : (clearReassembly s).pendValid = s.pendValid := rfl
@[simp] theorem clearReassembly_fatalCode : (clearReassembly s).fatalCode = s.fatalCode := rfl
@[simp] theorem clearReassembly_txSeq : (clearReassembly s).txSeq = s.txSeq := rfl
@[simp] theorem clearReassembly_rxExp : (clearReassembly s).rxExp = s.rxExp := rfl
@[simp] theorem clearReassembly_cap : (clearReassembly s).cap = s.cap := rfl
@[simp] theorem clearReassembly_txState : (clearReassembly s).txState = s.txState := rfl
@[simp] theorem clearReassembly_txAckReq : (clearReassembly s).txAckReq = s.txAckReq := rfl
@[simp] theorem clearReassembly_txCs : (clearReassembly s).txCs = s.txCs := rfl
@[simp] theorem clearReassembly_txLast : (clearReassembly s).txLast = s.txLast := rfl
@[simp] theorem clearReassembly_pendAcked : (clearReassembly s).pendAcked = s.pendAcked := rfl
@[simp] theorem clearReassembly_txClass : (clearReassembly s).txClass = s.txClass := rfl
@[simp] theorem clearReassembly_txSubtype : (clearReassembly s).txSubtype = s.txSubtype := rfl
@[simp] theorem clearReassembly_txCurSeq : (clearReassembly s).txCurSeq = s.txCurSeq := rfl
@[simp] theorem clearReassembly_txLen : (clearReassembly s).txLen = s.txLen := rfl
@[simp] theorem clearReassembly_txOff : (clearReassembly s).txOff = s.txOff := rfl
@[simp] theorem clearReassembly_txTimeout : (clearReassembly s).txTimeout = s.txTimeout := rfl
@[simp] theorem clearReassembly_pendSeq : (clearReassembly s).pendSeq = s.pendSeq := rfl
@[simp] theorem clearReassembly_pendRemain : (clearReassembly s).pendRemain = s.pendRemain := rfl
@[simp] theorem clearReassembly_raTarget : (clearReassembly s).raTarget = 0 := rfl
@[simp] theorem clearReassembly_raCount : (clearReassembly s).raCount = 0 := rfl
@[simp] theorem clearReassembly_raClass : (clearReassembly s).raClass = .control := rfl
@[simp] theorem clearReassembly_raSubtype : (clearReassembly s).raSubtype = 0 := rfl
@[simp] theorem clearReassembly_raSeq : (clearReassembly s).raSeq = 0 := rfl
@[simp] theorem clearReassembly_raFlags : (clearReassembly s).raFlags = 0 := rfl
@[simp] theorem clearReassembly_ackq : (clearReassembly s).ackq = s.ackq := rfl
@[simp] theorem clearReassembly_txBuf : (clearReassembly s).txBuf = s.txBuf := rfl
@[simp] theorem clearReassembly_raBuf : (clearReassembly s).raBuf = s.raBuf := rfl
@[simp] theorem clearReassembly_input : (clearReassembly s).input = s.input := rfl
@[simp] theorem clearReassembly_out : (clearReassembly s).out = s.out := rfl

/-! ## clearPending -/

@[simp] theorem clearPending_params : (clearPending s).params = s.params := rfl
@[simp] theorem clearPending_sess : (clearPending s).sess = s.sess := rfl
@[simp] theorem clearPending_linkOpen : (clearPending s).linkOpen = s.linkOpen := rfl
@[simp] theorem clearPending_fatal : (clearPending s).fatal = s.fatal := rfl
@[simp] theorem clearPending_raActive : (clearPending s).raActive = s.raActive := rfl
@[simp] theorem clearPending_portBusy : (clearPending s).portBusy = s.portBusy := rfl
@[simp] theorem clearPending_portOwner : (clearPending s).portOwner = s.portOwner := rfl
@[simp] theorem clearPending_pendValid : (clearPending s).pendValid = false := rfl
@[simp] theorem clearPending_fatalCode : (clearPending s).fatalCode = s.fatalCode := rfl
@[simp] theorem clearPending_txSeq : (clearPending s).txSeq = s.txSeq := rfl
@[simp] theorem clearPending_rxExp : (clearPending s).rxExp = s.rxExp := rfl
@[simp] theorem clearPending_cap : (clearPending s).cap = s.cap := rfl
@[simp] theorem clearPending_txState : (clearPending s).txState = s.txState := rfl
@[simp] theorem clearPending_txAckReq : (clearPending s).txAckReq = s.txAckReq := rfl
@[simp] theorem clearPending_txCs : (clearPending s).txCs = s.txCs := rfl
@[simp] theorem clearPending_txLast : (clearPending s).txLast = s.txLast := rfl
@[simp] theorem clearPending_pendAcked : (clearPending s).pendAcked = false := rfl
@[simp] theorem clearPending_txClass : (clearPending s).txClass = s.txClass := rfl
@[simp] theorem clearPending_txSubtype : (clearPending s).txSubtype = s.txSubtype := rfl
@[simp] theorem clearPending_txCurSeq : (clearPending s).txCurSeq = s.txCurSeq := rfl
@[simp] theorem clearPending_txLen : (clearPending s).txLen = s.txLen := rfl
@[simp] theorem clearPending_txOff : (clearPending s).txOff = s.txOff := rfl
@[simp] theorem clearPending_txTimeout : (clearPending s).txTimeout = s.txTimeout := rfl
@[simp] theorem clearPending_pendSeq : (clearPending s).pendSeq = s.pendSeq := rfl
@[simp] theorem clearPending_pendRemain : (clearPending s).pendRemain = 0 := rfl
@[simp] theorem clearPending_raTarget : (clearPending s).raTarget = s.raTarget := rfl
@[simp] theorem clearPending_raCount : (clearPending s).raCount = s.raCount := rfl
@[simp] theorem clearPending_raClass : (clearPending s).raClass = s.raClass := rfl
@[simp] theorem clearPending_raSubtype : (clearPending s).raSubtype = s.raSubtype := rfl
@[simp] theorem clearPending_raSeq : (clearPending s).raSeq = s.raSeq := rfl
@[simp] theorem clearPending_raFlags : (clearPending s).raFlags = s.raFlags := rfl
@[simp] theorem clearPending_ackq : (clearPending s).ackq = s.ackq := rfl
@[simp] theorem clearPending_txBuf : (clearPending s).txBuf = s.txBuf := rfl
@[simp] theorem clearPending_raBuf : (clearPending s).raBuf = s.raBuf := rfl
@[simp] theorem clearPending_input : (clearPending s).input = s.input := rfl
@[simp] theorem clearPending_out : (clearPending s).out = s.out := rfl

/-! ## clearAckq -/

@[simp] theorem clearAckq_params : (clearAckq s).params = s.params := rfl
@[simp] theorem clearAckq_sess : (clearAckq s).sess = s.sess := rfl
@[simp] theorem clearAckq_linkOpen : (clearAckq s).linkOpen = s.linkOpen := rfl
@[simp] theorem clearAckq_fatal : (clearAckq s).fatal = s.fatal := rfl
@[simp] theorem clearAckq_raActive : (clearAckq s).raActive = s.raActive := rfl
@[simp] theorem clearAckq_portBusy : (clearAckq s).portBusy = s.portBusy := rfl
@[simp] theorem clearAckq_portOwner : (clearAckq s).portOwner = s.portOwner := rfl
@[simp] theorem clearAckq_pendValid : (clearAckq s).pendValid = s.pendValid := rfl
@[simp] theorem clearAckq_fatalCode : (clearAckq s).fatalCode = s.fatalCode := rfl
@[simp] theorem clearAckq_txSeq : (clearAckq s).txSeq = s.txSeq := rfl
@[simp] theorem clearAckq_rxExp : (clearAckq s).rxExp = s.rxExp := rfl
@[simp] theorem clearAckq_cap : (clearAckq s).cap = s.cap := rfl
@[simp] theorem clearAckq_txState : (clearAckq s).txState = s.txState := rfl
@[simp] theorem clearAckq_txAckReq : (clearAckq s).txAckReq = s.txAckReq := rfl
@[simp] theorem clearAckq_txCs : (clearAckq s).txCs = s.txCs := rfl
@[simp] theorem clearAckq_txLast : (clearAckq s).txLast = s.txLast := rfl
@[simp] theorem clearAckq_pendAcked : (clearAckq s).pendAcked = s.pendAcked := rfl
@[simp] theorem clearAckq_txClass : (clearAckq s).txClass = s.txClass := rfl
@[simp] theorem clearAckq_txSubtype : (clearAckq s).txSubtype = s.txSubtype := rfl
@[simp] theorem clearAckq_txCurSeq : (clearAckq s).txCurSeq = s.txCurSeq := rfl
@[simp] theorem clearAckq_txLen : (clearAckq s).txLen = s.txLen := rfl
@[simp] theorem clearAckq_txOff : (clearAckq s).txOff = s.txOff := rfl
@[simp] theorem clearAckq_txTimeout : (clearAckq s).txTimeout = s.txTimeout := rfl
@[simp] theorem clearAckq_pendSeq : (clearAckq s).pendSeq = s.pendSeq := rfl
@[simp] theorem clearAckq_pendRemain : (clearAckq s).pendRemain = s.pendRemain := rfl
@[simp] theorem clearAckq_raTarget : (clearAckq s).raTarget = s.raTarget := rfl
@[simp] theorem clearAckq_raCount : (clearAckq s).raCount = s.raCount := rfl
@[simp] theorem clearAckq_raClass : (clearAckq s).raClass = s.raClass := rfl
@[simp] theorem clearAckq_raSubtype : (clearAckq s).raSubtype = s.raSubtype := rfl
@[simp] theorem clearAckq_raSeq : (clearAckq s).raSeq = s.raSeq := rfl
@[simp] theorem clearAckq_raFlags : (clearAckq s).raFlags = s.raFlags := rfl
@[simp] theorem clearAckq_ackq : (clearAckq s).ackq = [] := rfl
@[simp] theorem clearAckq_txBuf : (clearAckq s).txBuf = s.txBuf := rfl
@[simp] theorem clearAckq_raBuf : (clearAckq s).raBuf = s.raBuf := rfl
@[simp] theorem clearAckq_input : (clearAckq s).input = s.input := rfl
@[simp] theorem clearAckq_out : (clearAckq s).out = s.out := rfl

/-! ## teardown -/

@[simp] theorem teardown_params : (teardown s).params = s.params := rfl
@[simp] theorem teardown_sess : (teardown s).sess = s.sess := rfl
@[simp] theorem teardown_linkOpen : (teardown s).linkOpen = s.linkOpen := rfl
@[simp] theorem teardown_fatal : (teardown s).fatal = s.fatal := rfl
@[simp] theorem teardown_raActive : (teardown s).raActive = false := rfl
@[simp] theorem teardown_portBusy : (teardown s).portBusy = false := rfl
@[simp] theorem teardown_portOwner : (teardown s).portOwner = .send := rfl
@[simp] theorem teardown_pendValid : (teardown s).pendValid = false := rfl
@[simp] theorem teardown_fatalCode : (teardown s).fatalCode = s.fatalCode := rfl
@[simp] theorem teardown_txSeq : (teardown s).txSeq = s.txSeq := rfl
@[simp] theorem teardown_rxExp : (teardown s).rxExp = s.rxExp := rfl
@[simp] theorem teardown_cap : (teardown s).cap = s.cap := rfl
@[simp] theorem teardown_txState : (teardown s).txState = .idle := rfl
@[simp] theorem teardown_txAckReq : (teardown s).txAckReq = s.txAckReq := rfl
@[simp] theorem teardown_txCs : (teardown s).txCs = s.txCs := rfl
@[simp] theorem teardown_txLast : (teardown s).txLast = s.txLast := rfl
@[simp] theorem teardown_pendAcked : (teardown s).pendAcked = false := rfl
@[simp] theorem teardown_txClass : (teardown s).txClass = s.txClass := rfl
@[simp] theorem teardown_txSubtype : (teardown s).txSubtype = s.txSubtype := rfl
@[simp] theorem teardown_txCurSeq : (teardown s).txCurSeq = s.txCurSeq := rfl
@[simp] theorem teardown_txLen : (teardown s).txLen = s.txLen := rfl
@[simp] theorem teardown_txOff : (teardown s).txOff = s.txOff := rfl
@[simp] theorem teardown_txTimeout : (teardown s).txTimeout = s.txTimeout := rfl
@[simp] theorem teardown_pendSeq : (teardown s).pendSeq = s.pendSeq := rfl
@[simp] theorem teardown_pendRemain : (teardown s).pendRemain = 0 := rfl
@[simp] theorem teardown_raTarget : (teardown s).raTarget = 0 := rfl
@[simp] theorem teardown_raCount : (teardown s).raCount = 0 := rfl
@[simp] theorem teardown_raClass : (teardown s).raClass = .control := rfl
@[simp] theorem teardown_raSubtype : (teardown s).raSubtype = 0 := rfl
@[simp] theorem teardown_raSeq : (teardown s).raSeq = 0 := rfl
@[simp] theorem teardown_raFlags : (teardown s).raFlags = 0 := rfl
@[simp] theorem teardown_ackq : (teardown s).ackq = [] := rfl
@[simp] theorem teardown_txBuf : (teardown s).txBuf = s.txBuf := rfl
@[simp] theorem teardown_raBuf : (teardown s).raBuf = s.raBuf := rfl
@[simp] theorem teardown_input : (teardown s).input = s.input := rfl
@[simp] theorem teardown_out : (teardown s).out = s.out := rfl

/-! ## seqNext -/

@[simp] theorem seqNext_params : ((seqNext s).2).params = s.params := rfl
@[simp] theorem seqNext_sess : ((seqNext s).2).sess = s.sess := rfl
@[simp] theorem seqNext_linkOpen : ((seqNext s).2).linkOpen = s.linkOpen := rfl
@[simp] theorem seqNext_fatal : ((seqNext s).2).fatal = s.fatal := rfl
@[simp] theorem seqNext_raActive : ((seqNext s).2).raActive = s.raActive := rfl
@[simp] theorem seqNext_portBusy : ((seqNext s).2).portBusy = s.portBusy := rfl
@[simp] theorem seqNext_portOwner : ((seqNext s).2).portOwner = s.portOwner := rfl
@[simp] theorem seqNext_pendValid : ((seqNext s).2).pendValid = s.pendValid := rfl
@[simp] theorem seqNext_fatalCode : ((seqNext s).2).fatalCode = s.fatalCode := rfl
@[simp] theorem seqNext_txSeq : ((seqNext s).2).txSeq = s.txSeq + 1 := rfl
@[simp] theorem seqNext_rxExp : ((seqNext s).2).rxExp = s.rxExp := rfl
@[simp] theorem seqNext_cap : ((seqNext s).2).cap = s.cap := rfl
@[simp] theorem seqNext_txState : ((seqNext s).2).txState = s.txState := rfl
@[simp] theorem seqNext_txAckReq : ((seqNext s).2).txAckReq = s.txAckReq := rfl
@[simp] theorem seqNext_txCs : ((seqNext s).2).txCs = s.txCs := rfl
@[simp] theorem seqNext_txLast : ((seqNext s).2).txLast = s.txLast := rfl
@[simp] theorem seqNext_pendAcked : ((seqNext s).2).pendAcked = s.pendAcked := rfl
@[simp] theorem seqNext_txClass : ((seqNext s).2).txClass = s.txClass := rfl
@[simp] theorem seqNext_txSubtype : ((seqNext s).2).txSubtype = s.txSubtype := rfl
@[simp] theorem seqNext_txCurSeq : ((seqNext s).2).txCurSeq = s.txCurSeq := rfl
@[simp] theorem seqNext_txLen : ((seqNext s).2).txLen = s.txLen := rfl
@[simp] theorem seqNext_txOff : ((seqNext s).2).txOff = s.txOff := rfl
@[simp] theorem seqNext_txTimeout : ((seqNext s).2).txTimeout = s.txTimeout := rfl
@[simp] theorem seqNext_pendSeq : ((seqNext s).2).pendSeq = s.pendSeq := rfl
@[simp] theorem seqNext_pendRemain : ((seqNext s).2).pendRemain = s.pendRemain := rfl
@[simp] theorem seqNext_raTarget : ((seqNext s).2).raTarget = s.raTarget := rfl
@[simp] theorem seqNext_raCount : ((seqNext s).2).raCount = s.raCount := rfl
@[simp] theorem seqNext_raClass : ((seqNext s).2).raClass = s.raClass := rfl
@[simp] theorem seqNext_raSubtype : ((seqNext s).2).raSubtype = s.raSubtype := rfl
@[simp] theorem seqNext_raSeq : ((seqNext s).2).raSeq = s.raSeq := rfl
@[simp] theorem seqNext_raFlags : ((seqNext s).2).raFlags = s.raFlags := rfl
@[simp] theorem seqNext_ackq : ((seqNext s).2).ackq = s.ackq := rfl
@[simp] theorem seqNext_txBuf : ((seqNext s).2).txBuf = s.txBuf := rfl
@[simp] theorem seqNext_raBuf : ((seqNext s).2).raBuf = s.raBuf := rfl
@[simp] theorem seqNext_input : ((seqNext s).2).input = s.input := rfl
@[simp] theorem seqNext_out : ((seqNext s).2).out = s.out := rfl

/-! ## register -/

@[simp] theorem register_params (seq : Byte) : (register seq s).params = s.params := rfl
@[simp] theorem register_sess (seq : Byte) : (register seq s).sess = s.sess := rfl
@[simp] theorem register_linkOpen (seq : Byte) : (register seq s).linkOpen = s.linkOpen := rfl
@[simp] theorem register_fatal (seq : Byte) : (register seq s).fatal = s.fatal := rfl
@[simp] theorem register_raActive (seq : Byte) : (register seq s).raActive = s.raActive := rfl
@[simp] theorem register_portBusy (seq : Byte) : (register seq s).portBusy = s.portBusy := rfl
@[simp] theorem register_portOwner (seq : Byte) : (register seq s).portOwner = s.portOwner := rfl
@[simp] theorem register_pendValid (seq : Byte) : (register seq s).pendValid = true := rfl
@[simp] theorem register_fatalCode (seq : Byte) : (register seq s).fatalCode = s.fatalCode := rfl
@[simp] theorem register_txSeq (seq : Byte) : (register seq s).txSeq = s.txSeq := rfl
@[simp] theorem register_rxExp (seq : Byte) : (register seq s).rxExp = s.rxExp := rfl
@[simp] theorem register_cap (seq : Byte) : (register seq s).cap = s.cap := rfl
@[simp] theorem register_txState (seq : Byte) : (register seq s).txState = s.txState := rfl
@[simp] theorem register_txAckReq (seq : Byte) : (register seq s).txAckReq = s.txAckReq := rfl
@[simp] theorem register_txCs (seq : Byte) : (register seq s).txCs = s.txCs := rfl
@[simp] theorem register_txLast (seq : Byte) : (register seq s).txLast = s.txLast := rfl
@[simp] theorem register_pendAcked (seq : Byte) : (register seq s).pendAcked = false := rfl
@[simp] theorem register_txClass (seq : Byte) : (register seq s).txClass = s.txClass := rfl
@[simp] theorem register_txSubtype (seq : Byte) : (register seq s).txSubtype = s.txSubtype := rfl
@[simp] theorem register_txCurSeq (seq : Byte) : (register seq s).txCurSeq = s.txCurSeq := rfl
@[simp] theorem register_txLen (seq : Byte) : (register seq s).txLen = s.txLen := rfl
@[simp] theorem register_txOff (seq : Byte) : (register seq s).txOff = s.txOff := rfl
@[simp] theorem register_txTimeout (seq : Byte) : (register seq s).txTimeout = s.txTimeout := rfl
@[simp] theorem register_pendSeq (seq : Byte) : (register seq s).pendSeq = seq := rfl
@[simp] theorem register_pendRemain (seq : Byte) : (register seq s).pendRemain = 0 := rfl
@[simp] theorem register_raTarget (seq : Byte) : (register seq s).raTarget = s.raTarget := rfl
@[simp] theorem register_raCount (seq : Byte) : (register seq s).raCount = s.raCount := rfl
@[simp] theorem register_raClass (seq : Byte) : (register seq s).raClass = s.raClass := rfl
@[simp] theorem register_raSubtype (seq : Byte) : (register seq s).raSubtype = s.raSubtype := rfl
@[simp] theorem register_raSeq (seq : Byte) : (register seq s).raSeq = s.raSeq := rfl
@[simp] theorem register_raFlags (seq : Byte) : (register seq s).raFlags = s.raFlags := rfl
@[simp] theorem register_ackq (seq : Byte) : (register seq s).ackq = s.ackq := rfl
@[simp] theorem register_txBuf (seq : Byte) : (register seq s).txBuf = s.txBuf := rfl
@[simp] theorem register_raBuf (seq : Byte) : (register seq s).raBuf = s.raBuf := rfl
@[simp] theorem register_input (seq : Byte) : (register seq s).input = s.input := rfl
@[simp] theorem register_out (seq : Byte) : (register seq s).out = s.out := rfl

/-! ## arm -/

@[simp] theorem arm_params : (arm s).params = s.params := rfl
@[simp] theorem arm_sess : (arm s).sess = s.sess := rfl
@[simp] theorem arm_linkOpen : (arm s).linkOpen = s.linkOpen := rfl
@[simp] theorem arm_fatal : (arm s).fatal = s.fatal := rfl
@[simp] theorem arm_raActive : (arm s).raActive = s.raActive := rfl
@[simp] theorem arm_portBusy : (arm s).portBusy = s.portBusy := rfl
@[simp] theorem arm_portOwner : (arm s).portOwner = s.portOwner := rfl
@[simp] theorem arm_pendValid : (arm s).pendValid = s.pendValid := rfl
@[simp] theorem arm_fatalCode : (arm s).fatalCode = s.fatalCode := rfl
@[simp] theorem arm_txSeq : (arm s).txSeq = s.txSeq := rfl
@[simp] theorem arm_rxExp : (arm s).rxExp = s.rxExp := rfl
@[simp] theorem arm_cap : (arm s).cap = s.cap := rfl
@[simp] theorem arm_txState : (arm s).txState = .ackWait := rfl
@[simp] theorem arm_txAckReq : (arm s).txAckReq = s.txAckReq := rfl
@[simp] theorem arm_txCs : (arm s).txCs = s.txCs := rfl
@[simp] theorem arm_txLast : (arm s).txLast = s.txLast := rfl
@[simp] theorem arm_pendAcked : (arm s).pendAcked = s.pendAcked := rfl
@[simp] theorem arm_txClass : (arm s).txClass = s.txClass := rfl
@[simp] theorem arm_txSubtype : (arm s).txSubtype = s.txSubtype := rfl
@[simp] theorem arm_txCurSeq : (arm s).txCurSeq = s.txCurSeq := rfl
@[simp] theorem arm_txLen : (arm s).txLen = s.txLen := rfl
@[simp] theorem arm_txOff : (arm s).txOff = s.txOff := rfl
@[simp] theorem arm_txTimeout : (arm s).txTimeout = s.txTimeout := rfl
@[simp] theorem arm_pendSeq : (arm s).pendSeq = s.pendSeq := rfl
@[simp] theorem arm_pendRemain : (arm s).pendRemain = s.txTimeout := rfl
@[simp] theorem arm_raTarget : (arm s).raTarget = s.raTarget := rfl
@[simp] theorem arm_raCount : (arm s).raCount = s.raCount := rfl
@[simp] theorem arm_raClass : (arm s).raClass = s.raClass := rfl
@[simp] theorem arm_raSubtype : (arm s).raSubtype = s.raSubtype := rfl
@[simp] theorem arm_raSeq : (arm s).raSeq = s.raSeq := rfl
@[simp] theorem arm_raFlags : (arm s).raFlags = s.raFlags := rfl
@[simp] theorem arm_ackq : (arm s).ackq = s.ackq := rfl
@[simp] theorem arm_txBuf : (arm s).txBuf = s.txBuf := rfl
@[simp] theorem arm_raBuf : (arm s).raBuf = s.raBuf := rfl
@[simp] theorem arm_input : (arm s).input = s.input := rfl
@[simp] theorem arm_out : (arm s).out = s.out := rfl

/-! ## ackqPush -/

@[simp] theorem ackqPush_params (seq : Byte) : (ackqPush seq s).params = s.params := rfl
@[simp] theorem ackqPush_sess (seq : Byte) : (ackqPush seq s).sess = s.sess := rfl
@[simp] theorem ackqPush_linkOpen (seq : Byte) : (ackqPush seq s).linkOpen = s.linkOpen := rfl
@[simp] theorem ackqPush_fatal (seq : Byte) : (ackqPush seq s).fatal = s.fatal := rfl
@[simp] theorem ackqPush_raActive (seq : Byte) : (ackqPush seq s).raActive = s.raActive := rfl
@[simp] theorem ackqPush_portBusy (seq : Byte) : (ackqPush seq s).portBusy = s.portBusy := rfl
@[simp] theorem ackqPush_portOwner (seq : Byte) : (ackqPush seq s).portOwner = s.portOwner := rfl
@[simp] theorem ackqPush_pendValid (seq : Byte) : (ackqPush seq s).pendValid = s.pendValid := rfl
@[simp] theorem ackqPush_fatalCode (seq : Byte) : (ackqPush seq s).fatalCode = s.fatalCode := rfl
@[simp] theorem ackqPush_txSeq (seq : Byte) : (ackqPush seq s).txSeq = s.txSeq := rfl
@[simp] theorem ackqPush_rxExp (seq : Byte) : (ackqPush seq s).rxExp = s.rxExp := rfl
@[simp] theorem ackqPush_cap (seq : Byte) : (ackqPush seq s).cap = s.cap := rfl
@[simp] theorem ackqPush_txState (seq : Byte) : (ackqPush seq s).txState = s.txState := rfl
@[simp] theorem ackqPush_txAckReq (seq : Byte) : (ackqPush seq s).txAckReq = s.txAckReq := rfl
@[simp] theorem ackqPush_txCs (seq : Byte) : (ackqPush seq s).txCs = s.txCs := rfl
@[simp] theorem ackqPush_txLast (seq : Byte) : (ackqPush seq s).txLast = s.txLast := rfl
@[simp] theorem ackqPush_pendAcked (seq : Byte) : (ackqPush seq s).pendAcked = s.pendAcked := rfl
@[simp] theorem ackqPush_txClass (seq : Byte) : (ackqPush seq s).txClass = s.txClass := rfl
@[simp] theorem ackqPush_txSubtype (seq : Byte) : (ackqPush seq s).txSubtype = s.txSubtype := rfl
@[simp] theorem ackqPush_txCurSeq (seq : Byte) : (ackqPush seq s).txCurSeq = s.txCurSeq := rfl
@[simp] theorem ackqPush_txLen (seq : Byte) : (ackqPush seq s).txLen = s.txLen := rfl
@[simp] theorem ackqPush_txOff (seq : Byte) : (ackqPush seq s).txOff = s.txOff := rfl
@[simp] theorem ackqPush_txTimeout (seq : Byte) : (ackqPush seq s).txTimeout = s.txTimeout := rfl
@[simp] theorem ackqPush_pendSeq (seq : Byte) : (ackqPush seq s).pendSeq = s.pendSeq := rfl
@[simp] theorem ackqPush_pendRemain (seq : Byte) : (ackqPush seq s).pendRemain = s.pendRemain := rfl
@[simp] theorem ackqPush_raTarget (seq : Byte) : (ackqPush seq s).raTarget = s.raTarget := rfl
@[simp] theorem ackqPush_raCount (seq : Byte) : (ackqPush seq s).raCount = s.raCount := rfl
@[simp] theorem ackqPush_raClass (seq : Byte) : (ackqPush seq s).raClass = s.raClass := rfl
@[simp] theorem ackqPush_raSubtype (seq : Byte) : (ackqPush seq s).raSubtype = s.raSubtype := rfl
@[simp] theorem ackqPush_raSeq (seq : Byte) : (ackqPush seq s).raSeq = s.raSeq := rfl
@[simp] theorem ackqPush_raFlags (seq : Byte) : (ackqPush seq s).raFlags = s.raFlags := rfl
@[simp] theorem ackqPush_ackq (seq : Byte) : (ackqPush seq s).ackq = s.ackq ++ [seq] := rfl
@[simp] theorem ackqPush_txBuf (seq : Byte) : (ackqPush seq s).txBuf = s.txBuf := rfl
@[simp] theorem ackqPush_raBuf (seq : Byte) : (ackqPush seq s).raBuf = s.raBuf := rfl
@[simp] theorem ackqPush_input (seq : Byte) : (ackqPush seq s).input = s.input := rfl
@[simp] theorem ackqPush_out (seq : Byte) : (ackqPush seq s).out = s.out := rfl

/-! ## startReassembly -/

@[simp] theorem startReassembly_params (f : Frame) (target : Half) : (startReassembly f target s).params = s.params := rfl
@[simp] theorem startReassembly_sess (f : Frame) (target : Half) : (startReassembly f target s).sess = s.sess := rfl
@[simp] theorem startReassembly_linkOpen (f : Frame) (target : Half) : (startReassembly f target s).linkOpen = s.linkOpen := rfl
@[simp] theorem startReassembly_fatal (f : Frame) (target : Half) : (startReassembly f target s).fatal = s.fatal := rfl
@[simp] theorem startReassembly_raActive (f : Frame) (target : Half) : (startReassembly f target s).raActive = true := rfl
@[simp] theorem startReassembly_portBusy (f : Frame) (target : Half) : (startReassembly f target s).portBusy = s.portBusy := rfl
@[simp] theorem startReassembly_portOwner (f : Frame) (target : Half) : (startReassembly f target s).portOwner = s.portOwner := rfl
@[simp] theorem startReassembly_pendValid (f : Frame) (target : Half) : (startReassembly f target s).pendValid = s.pendValid := rfl
@[simp] theorem startReassembly_fatalCode (f : Frame) (target : Half) : (startReassembly f target s).fatalCode = s.fatalCode := rfl
@[simp] theorem startReassembly_txSeq (f : Frame) (target : Half) : (startReassembly f target s).txSeq = s.txSeq := rfl
@[simp] theorem startReassembly_rxExp (f : Frame) (target : Half) : (startReassembly f target s).rxExp = s.rxExp := rfl
@[simp] theorem startReassembly_cap (f : Frame) (target : Half) : (startReassembly f target s).cap = s.cap := rfl
@[simp] theorem startReassembly_txState (f : Frame) (target : Half) : (startReassembly f target s).txState = s.txState := rfl
@[simp] theorem startReassembly_txAckReq (f : Frame) (target : Half) : (startReassembly f target s).txAckReq = s.txAckReq := rfl
@[simp] theorem startReassembly_txCs (f : Frame) (target : Half) : (startReassembly f target s).txCs = s.txCs := rfl
@[simp] theorem startReassembly_txLast (f : Frame) (target : Half) : (startReassembly f target s).txLast = s.txLast := rfl
@[simp] theorem startReassembly_pendAcked (f : Frame) (target : Half) : (startReassembly f target s).pendAcked = s.pendAcked := rfl
@[simp] theorem startReassembly_txClass (f : Frame) (target : Half) : (startReassembly f target s).txClass = s.txClass := rfl
@[simp] theorem startReassembly_txSubtype (f : Frame) (target : Half) : (startReassembly f target s).txSubtype = s.txSubtype := rfl
@[simp] theorem startReassembly_txCurSeq (f : Frame) (target : Half) : (startReassembly f target s).txCurSeq = s.txCurSeq := rfl
@[simp] theorem startReassembly_txLen (f : Frame) (target : Half) : (startReassembly f target s).txLen = s.txLen := rfl
@[simp] theorem startReassembly_txOff (f : Frame) (target : Half) : (startReassembly f target s).txOff = s.txOff := rfl
@[simp] theorem startReassembly_txTimeout (f : Frame) (target : Half) : (startReassembly f target s).txTimeout = s.txTimeout := rfl
@[simp] theorem startReassembly_pendSeq (f : Frame) (target : Half) : (startReassembly f target s).pendSeq = s.pendSeq := rfl
@[simp] theorem startReassembly_pendRemain (f : Frame) (target : Half) : (startReassembly f target s).pendRemain = s.pendRemain := rfl
@[simp] theorem startReassembly_raTarget (f : Frame) (target : Half) : (startReassembly f target s).raTarget = target := rfl
@[simp] theorem startReassembly_raCount (f : Frame) (target : Half) : (startReassembly f target s).raCount = 0 := rfl
@[simp] theorem startReassembly_raClass (f : Frame) (target : Half) : (startReassembly f target s).raClass = f.cls := rfl
@[simp] theorem startReassembly_raSubtype (f : Frame) (target : Half) : (startReassembly f target s).raSubtype = f.subtype := rfl
@[simp] theorem startReassembly_raSeq (f : Frame) (target : Half) : (startReassembly f target s).raSeq = f.seq := rfl
@[simp] theorem startReassembly_raFlags (f : Frame) (target : Half) : (startReassembly f target s).raFlags = f.flags := rfl
@[simp] theorem startReassembly_ackq (f : Frame) (target : Half) : (startReassembly f target s).ackq = s.ackq := rfl
@[simp] theorem startReassembly_txBuf (f : Frame) (target : Half) : (startReassembly f target s).txBuf = s.txBuf := rfl
@[simp] theorem startReassembly_raBuf (f : Frame) (target : Half) : (startReassembly f target s).raBuf = s.raBuf := rfl
@[simp] theorem startReassembly_input (f : Frame) (target : Half) : (startReassembly f target s).input = s.input := rfl
@[simp] theorem startReassembly_out (f : Frame) (target : Half) : (startReassembly f target s).out = s.out := rfl

/-! ## latchSend -/

@[simp] theorem latchSend_params (cls : FrameClass) (b0 opts : Byte) (timeout : Half) (len : Nat) : (latchSend cls b0 opts timeout len s).params = s.params := rfl
@[simp] theorem latchSend_sess (cls : FrameClass) (b0 opts : Byte) (timeout : Half) (len : Nat) : (latchSend cls b0 opts timeout len s).sess = s.sess := rfl
@[simp] theorem latchSend_linkOpen (cls : FrameClass) (b0 opts : Byte) (timeout : Half) (len : Nat) : (latchSend cls b0 opts timeout len s).linkOpen = s.linkOpen := rfl
@[simp] theorem latchSend_fatal (cls : FrameClass) (b0 opts : Byte) (timeout : Half) (len : Nat) : (latchSend cls b0 opts timeout len s).fatal = s.fatal := rfl
@[simp] theorem latchSend_raActive (cls : FrameClass) (b0 opts : Byte) (timeout : Half) (len : Nat) : (latchSend cls b0 opts timeout len s).raActive = s.raActive := rfl
@[simp] theorem latchSend_portBusy (cls : FrameClass) (b0 opts : Byte) (timeout : Half) (len : Nat) : (latchSend cls b0 opts timeout len s).portBusy = s.portBusy := rfl
@[simp] theorem latchSend_portOwner (cls : FrameClass) (b0 opts : Byte) (timeout : Half) (len : Nat) : (latchSend cls b0 opts timeout len s).portOwner = s.portOwner := rfl
@[simp] theorem latchSend_pendValid (cls : FrameClass) (b0 opts : Byte) (timeout : Half) (len : Nat) : (latchSend cls b0 opts timeout len s).pendValid = s.pendValid := rfl
@[simp] theorem latchSend_fatalCode (cls : FrameClass) (b0 opts : Byte) (timeout : Half) (len : Nat) : (latchSend cls b0 opts timeout len s).fatalCode = s.fatalCode := rfl
@[simp] theorem latchSend_txSeq (cls : FrameClass) (b0 opts : Byte) (timeout : Half) (len : Nat) : (latchSend cls b0 opts timeout len s).txSeq = s.txSeq := rfl
@[simp] theorem latchSend_rxExp (cls : FrameClass) (b0 opts : Byte) (timeout : Half) (len : Nat) : (latchSend cls b0 opts timeout len s).rxExp = s.rxExp := rfl
@[simp] theorem latchSend_cap (cls : FrameClass) (b0 opts : Byte) (timeout : Half) (len : Nat) : (latchSend cls b0 opts timeout len s).cap = s.cap := rfl
@[simp] theorem latchSend_txState (cls : FrameClass) (b0 opts : Byte) (timeout : Half) (len : Nat) : (latchSend cls b0 opts timeout len s).txState = .issue := rfl
@[simp] theorem latchSend_txAckReq (cls : FrameClass) (b0 opts : Byte) (timeout : Half) (len : Nat) : (latchSend cls b0 opts timeout len s).txAckReq = optAckReq opts := rfl
@[simp] theorem latchSend_txCs (cls : FrameClass) (b0 opts : Byte) (timeout : Half) (len : Nat) : (latchSend cls b0 opts timeout len s).txCs = optCs opts := rfl
@[simp] theorem latchSend_txLast (cls : FrameClass) (b0 opts : Byte) (timeout : Half) (len : Nat) : (latchSend cls b0 opts timeout len s).txLast = false := rfl
@[simp] theorem latchSend_pendAcked (cls : FrameClass) (b0 opts : Byte) (timeout : Half) (len : Nat) : (latchSend cls b0 opts timeout len s).pendAcked = s.pendAcked := rfl
@[simp] theorem latchSend_txClass (cls : FrameClass) (b0 opts : Byte) (timeout : Half) (len : Nat) : (latchSend cls b0 opts timeout len s).txClass = cls := rfl
@[simp] theorem latchSend_txSubtype (cls : FrameClass) (b0 opts : Byte) (timeout : Half) (len : Nat) : (latchSend cls b0 opts timeout len s).txSubtype = subtypeField b0 := rfl
@[simp] theorem latchSend_txCurSeq (cls : FrameClass) (b0 opts : Byte) (timeout : Half) (len : Nat) : (latchSend cls b0 opts timeout len s).txCurSeq = s.txCurSeq := rfl
@[simp] theorem latchSend_txLen (cls : FrameClass) (b0 opts : Byte) (timeout : Half) (len : Nat) : (latchSend cls b0 opts timeout len s).txLen = BitVec.ofNat 16 len := rfl
@[simp] theorem latchSend_txOff (cls : FrameClass) (b0 opts : Byte) (timeout : Half) (len : Nat) : (latchSend cls b0 opts timeout len s).txOff = 0 := rfl
@[simp] theorem latchSend_txTimeout (cls : FrameClass) (b0 opts : Byte) (timeout : Half) (len : Nat) : (latchSend cls b0 opts timeout len s).txTimeout = effectiveTimeout s.params timeout := rfl
@[simp] theorem latchSend_pendSeq (cls : FrameClass) (b0 opts : Byte) (timeout : Half) (len : Nat) : (latchSend cls b0 opts timeout len s).pendSeq = s.pendSeq := rfl
@[simp] theorem latchSend_pendRemain (cls : FrameClass) (b0 opts : Byte) (timeout : Half) (len : Nat) : (latchSend cls b0 opts timeout len s).pendRemain = s.pendRemain := rfl
@[simp] theorem latchSend_raTarget (cls : FrameClass) (b0 opts : Byte) (timeout : Half) (len : Nat) : (latchSend cls b0 opts timeout len s).raTarget = s.raTarget := rfl
@[simp] theorem latchSend_raCount (cls : FrameClass) (b0 opts : Byte) (timeout : Half) (len : Nat) : (latchSend cls b0 opts timeout len s).raCount = s.raCount := rfl
@[simp] theorem latchSend_raClass (cls : FrameClass) (b0 opts : Byte) (timeout : Half) (len : Nat) : (latchSend cls b0 opts timeout len s).raClass = s.raClass := rfl
@[simp] theorem latchSend_raSubtype (cls : FrameClass) (b0 opts : Byte) (timeout : Half) (len : Nat) : (latchSend cls b0 opts timeout len s).raSubtype = s.raSubtype := rfl
@[simp] theorem latchSend_raSeq (cls : FrameClass) (b0 opts : Byte) (timeout : Half) (len : Nat) : (latchSend cls b0 opts timeout len s).raSeq = s.raSeq := rfl
@[simp] theorem latchSend_raFlags (cls : FrameClass) (b0 opts : Byte) (timeout : Half) (len : Nat) : (latchSend cls b0 opts timeout len s).raFlags = s.raFlags := rfl
@[simp] theorem latchSend_ackq (cls : FrameClass) (b0 opts : Byte) (timeout : Half) (len : Nat) : (latchSend cls b0 opts timeout len s).ackq = s.ackq := rfl
@[simp] theorem latchSend_txBuf (cls : FrameClass) (b0 opts : Byte) (timeout : Half) (len : Nat) : (latchSend cls b0 opts timeout len s).txBuf = s.txBuf := rfl
@[simp] theorem latchSend_raBuf (cls : FrameClass) (b0 opts : Byte) (timeout : Half) (len : Nat) : (latchSend cls b0 opts timeout len s).raBuf = s.raBuf := rfl
@[simp] theorem latchSend_input (cls : FrameClass) (b0 opts : Byte) (timeout : Half) (len : Nat) : (latchSend cls b0 opts timeout len s).input = s.input := rfl
@[simp] theorem latchSend_out (cls : FrameClass) (b0 opts : Byte) (timeout : Half) (len : Nat) : (latchSend cls b0 opts timeout len s).out = s.out := rfl

/-! ## issueAck -/

@[simp] theorem issueAck_params (a : Byte) (rest : Bytes) : (issueAck a rest s).params = s.params := rfl
@[simp] theorem issueAck_sess (a : Byte) (rest : Bytes) : (issueAck a rest s).sess = s.sess := rfl
@[simp] theorem issueAck_linkOpen (a : Byte) (rest : Bytes) : (issueAck a rest s).linkOpen = s.linkOpen := rfl
@[simp] theorem issueAck_fatal (a : Byte) (rest : Bytes) : (issueAck a rest s).fatal = s.fatal := rfl
@[simp] theorem issueAck_raActive (a : Byte) (rest : Bytes) : (issueAck a rest s).raActive = s.raActive := rfl
@[simp] theorem issueAck_portBusy (a : Byte) (rest : Bytes) : (issueAck a rest s).portBusy = true := rfl
@[simp] theorem issueAck_portOwner (a : Byte) (rest : Bytes) : (issueAck a rest s).portOwner = .autoAck := rfl
@[simp] theorem issueAck_pendValid (a : Byte) (rest : Bytes) : (issueAck a rest s).pendValid = s.pendValid := rfl
@[simp] theorem issueAck_fatalCode (a : Byte) (rest : Bytes) : (issueAck a rest s).fatalCode = s.fatalCode := rfl
@[simp] theorem issueAck_txSeq (a : Byte) (rest : Bytes) : (issueAck a rest s).txSeq = s.txSeq + 1 := rfl
@[simp] theorem issueAck_rxExp (a : Byte) (rest : Bytes) : (issueAck a rest s).rxExp = s.rxExp := rfl
@[simp] theorem issueAck_cap (a : Byte) (rest : Bytes) : (issueAck a rest s).cap = s.cap := rfl
@[simp] theorem issueAck_txState (a : Byte) (rest : Bytes) : (issueAck a rest s).txState = s.txState := rfl
@[simp] theorem issueAck_txAckReq (a : Byte) (rest : Bytes) : (issueAck a rest s).txAckReq = s.txAckReq := rfl
@[simp] theorem issueAck_txCs (a : Byte) (rest : Bytes) : (issueAck a rest s).txCs = s.txCs := rfl
@[simp] theorem issueAck_txLast (a : Byte) (rest : Bytes) : (issueAck a rest s).txLast = s.txLast := rfl
@[simp] theorem issueAck_pendAcked (a : Byte) (rest : Bytes) : (issueAck a rest s).pendAcked = s.pendAcked := rfl
@[simp] theorem issueAck_txClass (a : Byte) (rest : Bytes) : (issueAck a rest s).txClass = s.txClass := rfl
@[simp] theorem issueAck_txSubtype (a : Byte) (rest : Bytes) : (issueAck a rest s).txSubtype = s.txSubtype := rfl
@[simp] theorem issueAck_txCurSeq (a : Byte) (rest : Bytes) : (issueAck a rest s).txCurSeq = s.txCurSeq := rfl
@[simp] theorem issueAck_txLen (a : Byte) (rest : Bytes) : (issueAck a rest s).txLen = s.txLen := rfl
@[simp] theorem issueAck_txOff (a : Byte) (rest : Bytes) : (issueAck a rest s).txOff = s.txOff := rfl
@[simp] theorem issueAck_txTimeout (a : Byte) (rest : Bytes) : (issueAck a rest s).txTimeout = s.txTimeout := rfl
@[simp] theorem issueAck_pendSeq (a : Byte) (rest : Bytes) : (issueAck a rest s).pendSeq = s.pendSeq := rfl
@[simp] theorem issueAck_pendRemain (a : Byte) (rest : Bytes) : (issueAck a rest s).pendRemain = s.pendRemain := rfl
@[simp] theorem issueAck_raTarget (a : Byte) (rest : Bytes) : (issueAck a rest s).raTarget = s.raTarget := rfl
@[simp] theorem issueAck_raCount (a : Byte) (rest : Bytes) : (issueAck a rest s).raCount = s.raCount := rfl
@[simp] theorem issueAck_raClass (a : Byte) (rest : Bytes) : (issueAck a rest s).raClass = s.raClass := rfl
@[simp] theorem issueAck_raSubtype (a : Byte) (rest : Bytes) : (issueAck a rest s).raSubtype = s.raSubtype := rfl
@[simp] theorem issueAck_raSeq (a : Byte) (rest : Bytes) : (issueAck a rest s).raSeq = s.raSeq := rfl
@[simp] theorem issueAck_raFlags (a : Byte) (rest : Bytes) : (issueAck a rest s).raFlags = s.raFlags := rfl
@[simp] theorem issueAck_ackq (a : Byte) (rest : Bytes) : (issueAck a rest s).ackq = rest := rfl
@[simp] theorem issueAck_txBuf (a : Byte) (rest : Bytes) : (issueAck a rest s).txBuf = s.txBuf := rfl
@[simp] theorem issueAck_raBuf (a : Byte) (rest : Bytes) : (issueAck a rest s).raBuf = s.raBuf := rfl
@[simp] theorem issueAck_input (a : Byte) (rest : Bytes) : (issueAck a rest s).input = s.input := rfl
@[simp] theorem issueAck_out (a : Byte) (rest : Bytes) : (issueAck a rest s).out = s.out ++ [0xC0 :: encodeFrame Config.crc16 (ackFrame s.txSeq a)] := rfl

/-! ## Every event is an `emit` -/

@[simp] theorem seqNext_fst : (seqNext s).1 = s.txSeq := rfl
@[simp] theorem emitTxWrite_eq (frame : Bytes) : emitTxWrite frame s = emit (0xC0 :: frame) s := rfl
@[simp] theorem emitCmdDone_eq (op st d : Byte) : emitCmdDone op st d s = emit [0xC1, op, st, d] s := rfl
@[simp] theorem emitDeliver_eq (b0 seq flags : Byte) (p : Bytes) :
    emitDeliver b0 seq flags p s = emit (0xC2 :: b0 :: seq :: flags :: (le16 (BitVec.ofNat 16 p.length) ++ p)) s := rfl
@[simp] theorem emitLog_eq (code arg : Byte) : emitLog code arg s = emit [0xC3, code, arg] s := rfl
@[simp] theorem emitFatal_eq (code : Byte) : emitFatal code s = emit [0xC4, code] s := rfl
@[simp] theorem emitRelease_eq : emitRelease s = emit [0xC5] s := rfl
@[simp] theorem emitQueryResp_eq (snap : Bytes) : emitQueryResp snap s = emit (0xC6 :: snap) s := rfl
@[simp] theorem answer_eq (op : Byte) (st : Status) : answer op st s = emit [0xC1, op, st.code, 0] s := rfl
@[simp] theorem sendDone_eq (st : Status) : sendDone st s = emit [0xC1, 0x02, st.code, 0] s := rfl
@[simp] theorem illegalCommand_eq (tag : Byte) : illegalCommand tag s = emit [0xC1, tag, 0x21, 0] s := rfl
@[simp] theorem ignoreNotification_eq : ignoreNotification s = emit [0xC3, 0x02, 0] s := rfl

end Sys2Proof.Machine
end

