-- ==== Sys2Proof/Laws/Buffers.lean ====
section
/-! SUPPORT. The laws of the byte buffers (R94): a write is read back, leaves every other byte alone and keeps the
canonical form, and two buffers in canonical form that read alike are equal. -/

namespace Sys2Proof.Machine

/-! ## The canonical form -/

theorem bufferWfFrom_mono {b : Buffer} {a a' : Nat} (h : bufferWfFrom a' b = true) (ha : a ≤ a') :
    bufferWfFrom a b = true := by
  cases b with
  | nil => rfl
  | cons c r =>
    obtain ⟨x, v⟩ := c
    simp only [bufferWfFrom, Bool.and_eq_true, decide_eq_true_eq] at h ⊢
    exact ⟨⟨⟨by omega, h.1.1.2⟩, h.1.2⟩, h.2⟩

/-- Below every address of a buffer in canonical form the buffer lists nothing. -/
theorem readByte_below {b : Buffer} {lo a : Nat} (h : bufferWfFrom lo b = true) (ha : a < lo) :
    readByte b a = unlistedByte := by
  induction b generalizing lo with
  | nil => rfl
  | cons c r ih =>
    obtain ⟨x, v⟩ := c
    simp only [bufferWfFrom, Bool.and_eq_true, decide_eq_true_eq] at h
    have hx : x ≠ a := by omega
    simp only [readByte, if_neg hx]
    exact ih h.2 (by omega)

theorem putCell_wf {b : Buffer} {lo a : Nat} {v : Byte} (h : bufferWfFrom (a + 1) b = true) (hlo : lo ≤ a)
    (ha : a < Config.bufferSize) : bufferWfFrom lo (putCell a v b) = true := by
  unfold putCell
  split
  · exact bufferWfFrom_mono h (by omega)
  · rename_i hv
    simp [bufferWfFrom, hlo, ha, hv, h]

theorem readByte_putCell {b : Buffer} {a : Nat} (v : Byte) (h : bufferWfFrom (a + 1) b = true) (x : Nat) :
    readByte (putCell a v b) x = if x = a then v else readByte b x := by
  unfold putCell
  split
  · rename_i hv
    by_cases hx : x = a
    · rw [if_pos hx, hx, readByte_below h (by omega), hv]
    · rw [if_neg hx]
  · simp only [readByte]
    by_cases hx : x = a
    · simp [hx]
    · simp [hx, Ne.symm hx]

theorem writeByte_wf {b : Buffer} {lo a : Nat} (v : Byte) (h : bufferWfFrom lo b = true) (hlo : lo ≤ a)
    (ha : a < Config.bufferSize) : bufferWfFrom lo (writeByte b a v) = true := by
  induction b generalizing lo with
  | nil => exact putCell_wf rfl hlo ha
  | cons c r ih =>
    obtain ⟨x, w⟩ := c
    have h' := h
    simp only [bufferWfFrom, Bool.and_eq_true, decide_eq_true_eq] at h
    unfold writeByte
    split
    · refine putCell_wf ?_ hlo ha
      simp only [bufferWfFrom, Bool.and_eq_true, decide_eq_true_eq]
      exact ⟨⟨⟨by omega, h.1.1.2⟩, h.1.2⟩, h.2⟩
    · split
      · rename_i hax
        exact putCell_wf (hax ▸ h.2) hlo ha
      · simp only [bufferWfFrom, Bool.and_eq_true, decide_eq_true_eq]
        exact ⟨⟨⟨h.1.1.1, h.1.1.2⟩, h.1.2⟩, ih h.2 (by omega)⟩

/-- A byte written is read back, and every other byte reads as before. -/
theorem readByte_writeByte {b : Buffer} {lo : Nat} (a : Nat) (v : Byte) (h : bufferWfFrom lo b = true) (x : Nat) :
    readByte (writeByte b a v) x = if x = a then v else readByte b x := by
  induction b generalizing lo with
  | nil => exact readByte_putCell v rfl x
  | cons c r ih =>
    obtain ⟨y, w⟩ := c
    have h' := h
    simp only [bufferWfFrom, Bool.and_eq_true, decide_eq_true_eq] at h
    unfold writeByte
    split
    · refine readByte_putCell v ?_ x
      simp only [bufferWfFrom, Bool.and_eq_true, decide_eq_true_eq]
      exact ⟨⟨⟨by omega, h.1.1.2⟩, h.1.2⟩, h.2⟩
    · split
      · rename_i hay
        subst hay
        rw [readByte_putCell v h.2 x]
        by_cases hx : x = a
        · simp [hx]
        · simp [hx, readByte, Ne.symm hx]
      · rename_i hay
        simp only [readByte]
        rw [ih h.2]
        by_cases hy : y = x
        · simp [hy, show x ≠ a by omega]
        · simp [hy]

/-! ## Writing and reading many bytes -/

theorem writeBytes_wf {b : Buffer} {vs : Bytes} {a : Nat} (h : bufferWf b = true)
    (ha : a + vs.length ≤ Config.bufferSize) : bufferWf (writeBytes b a vs) = true := by
  induction vs generalizing b a with
  | nil => exact h
  | cons v vs ih =>
    simp only [List.length_cons] at ha
    exact ih (writeByte_wf v h (Nat.zero_le _) (by omega)) (by omega)

/-- The bytes written are read back, and every other byte reads as before. -/
theorem readByte_writeBytes {b : Buffer} {vs : Bytes} {a : Nat} (h : bufferWf b = true)
    (ha : a + vs.length ≤ Config.bufferSize) (x : Nat) :
    readByte (writeBytes b a vs) x = if a ≤ x ∧ x < a + vs.length then vs.getD (x - a) 0 else readByte b x := by
  induction vs generalizing b a with
  | nil => simp [writeBytes, show ¬(a ≤ x ∧ x < a) by omega]
  | cons v vs ih =>
    simp only [List.length_cons] at ha
    have hw : bufferWf (writeByte b a v) = true := writeByte_wf v h (Nat.zero_le _) (by omega)
    simp only [writeBytes, ih hw (by omega : a + 1 + vs.length ≤ _), readByte_writeByte a v h, List.length_cons]
    by_cases hx : x = a
    · simp [hx]
    · by_cases hlt : a + 1 ≤ x ∧ x < a + 1 + vs.length
      · rw [if_pos hlt, if_pos (by omega), show x - a = (x - (a + 1)) + 1 by omega]
        rfl
      · rw [if_neg hlt, if_neg hx, if_neg (by omega)]

@[simp] theorem readBytes_length (b : Buffer) (a n : Nat) : (readBytes b a n).length = n := by
  induction n generalizing a with
  | zero => rfl
  | succ n ih => simp [readBytes, ih]

/-- What reading many bytes gives, byte by byte. -/
theorem readBytes_eq_ofFn (b : Buffer) (a n : Nat) : readBytes b a n = List.ofFn fun i : Fin n => readByte b (a + i) := by
  induction n generalizing a with
  | zero => rfl
  | succ n ih => simp [readBytes, ih, List.ofFn_succ, Nat.add_comm, Nat.add_left_comm]

/-- Buffers that read alike where they are read give the same bytes. -/
theorem readBytes_congr {b c : Buffer} {a n : Nat} (h : ∀ x, a ≤ x → x < a + n → readByte b x = readByte c x) :
    readBytes b a n = readBytes c a n := by
  induction n generalizing a with
  | zero => rfl
  | succ n ih =>
    simp only [readBytes]
    rw [h a (by omega) (by omega), ih (fun x h1 h2 => h x (by omega) (by omega))]

theorem readBytes_add (b : Buffer) (a m n : Nat) : readBytes b a (m + n) = readBytes b a m ++ readBytes b (a + m) n := by
  induction m generalizing a with
  | zero => simp [readBytes]
  | succ m ih =>
    rw [show m + 1 + n = (m + n) + 1 by omega]
    simp [readBytes, ih, Nat.add_assoc, Nat.add_comm 1 m]

/-- Reading the bytes just written gives them. -/
theorem readBytes_writeBytes {b : Buffer} {vs : Bytes} {a : Nat} (h : bufferWf b = true)
    (ha : a + vs.length ≤ Config.bufferSize) : readBytes (writeBytes b a vs) a vs.length = vs := by
  apply List.ext_getElem (by simp)
  intro i h1 h2
  have := readByte_writeBytes h ha (a + i)
  rw [if_pos (by omega)] at this
  simp [readBytes_eq_ofFn, this, List.getD_eq_getElem?_getD, h2]

/-- What was below a write reads as before. -/
theorem readBytes_writeBytes_below {b : Buffer} {vs : Bytes} {a n : Nat} (h : bufferWf b = true)
    (ha : a + vs.length ≤ Config.bufferSize) (hn : n ≤ a) : readBytes (writeBytes b a vs) 0 n = readBytes b 0 n := by
  refine readBytes_congr fun x _ hx => ?_
  rw [readByte_writeBytes h ha, if_neg (by omega)]

/-- Two buffers in canonical form that read alike everywhere are the same list. -/
theorem buffer_ext {b c : Buffer} {lo : Nat} (hb : bufferWfFrom lo b = true) (hc : bufferWfFrom lo c = true)
    (h : ∀ x, readByte b x = readByte c x) : b = c := by
  induction b generalizing lo c with
  | nil =>
    cases c with
    | nil => rfl
    | cons d r =>
      obtain ⟨y, w⟩ := d
      have := h y
      simp only [bufferWfFrom, Bool.and_eq_true, decide_eq_true_eq] at hc
      simp [readByte] at this
      exact absurd this.symm hc.1.2
  | cons d r ih =>
    obtain ⟨x, v⟩ := d
    have hb' := hb
    simp only [bufferWfFrom, Bool.and_eq_true, decide_eq_true_eq] at hb
    cases c with
    | nil =>
      have := h x
      simp [readByte] at this
      exact absurd this hb.1.2
    | cons e q =>
      obtain ⟨y, w⟩ := e
      simp only [bufferWfFrom, Bool.and_eq_true, decide_eq_true_eq] at hc
      have hxy : x = y := by
        by_contra hne
        rcases Nat.lt_or_gt_of_ne hne with hlt | hlt
        · have h1 := h x
          simp only [readByte, if_neg (show y ≠ x by omega), if_pos] at h1
          rw [readByte_below hc.2 (by omega)] at h1
          exact hb.1.2 h1
        · have h1 := h y
          simp only [readByte, if_neg (show x ≠ y by omega), if_pos] at h1
          rw [readByte_below hb.2 (by omega)] at h1
          exact hc.1.2 h1.symm
      subst hxy
      have hv : v = w := by simpa [readByte] using h x
      subst hv
      refine congrArg _ (ih hb.2 hc.2 fun z => ?_)
      by_cases hz : z ≤ x
      · rw [readByte_below hb.2 (by omega), readByte_below hc.2 (by omega)]
      · simpa [readByte, show x ≠ z by omega] using h z

/-! ## MemWrite and MemRead -/

/-- All that MemWrite can do (R94): inside the buffer it gives a buffer in canonical form that reads as written. -/
theorem memWrite_spec {b c : Buffer} {a : Nat} {vs : Bytes} (hw : memWrite b a vs = some c) (h : bufferWf b = true) :
    a + vs.length ≤ Config.bufferSize ∧ bufferWf c = true ∧
      ∀ x, readByte c x = if a ≤ x ∧ x < a + vs.length then vs.getD (x - a) 0 else readByte b x := by
  unfold memWrite at hw
  split at hw
  · rename_i ha
    cases hw
    exact ⟨ha, writeBytes_wf h ha, readByte_writeBytes h ha⟩
  · cases hw

theorem memWrite_inside (b : Buffer) {a : Nat} {vs : Bytes} (ha : a + vs.length ≤ Config.bufferSize) :
    memWrite b a vs = some (writeBytes b a vs) := if_pos ha

/-- All that MemRead can do (R94). -/
theorem memRead_spec {b : Buffer} {a n : Nat} {p : Bytes} (hr : memRead b a n = some p) :
    a + n ≤ Config.bufferSize ∧ p = readBytes b a n := by
  unfold memRead at hr
  split at hr
  · cases hr
    exact ⟨by assumption, rfl⟩
  · cases hr

theorem memRead_inside (b : Buffer) {a n : Nat} (ha : a + n ≤ Config.bufferSize) :
    memRead b a n = some (readBytes b a n) := if_pos ha

/-- A 16-bit length never leaves a buffer. -/
theorem memRead_half (b : Buffer) (n : Half) : memRead b 0 n.toNat = some (readBytes b 0 n.toNat) :=
  memRead_inside b (by have := n.isLt; simp only [Config.bufferSize]; omega)

end Sys2Proof.Machine
end

