-- ==== Sys2Proof/Laws/Decode.lean ====
section
/-! SUPPORT. The bit fields and byte orders of the decoder and the encoder, each the other's inverse (R13, R100, R101). -/

namespace Sys2Proof

theorem rd16_toNat (lo hi : Byte) : (rd16 lo hi).toNat = lo.toNat + 256 * hi.toNat := by
  unfold rd16
  have := lo.isLt
  rw [BitVec.toNat_append, Nat.shiftLeft_eq, Nat.mul_comm, ← Nat.two_pow_add_eq_or_of_lt lo.isLt]
  omega

@[simp] theorem rd16_le16_bytes (v : Half) : rd16 (v.extractLsb' 0 8) (v.extractLsb' 8 8) = v := by
  apply BitVec.eq_of_toNat_eq
  have := v.isLt
  rw [rd16_toNat, BitVec.extractLsb'_toNat, BitVec.extractLsb'_toNat]
  simp only [Nat.shiftRight_eq_div_pow]
  omega

@[simp] theorem le16_rd16 (lo hi : Byte) : le16 (rd16 lo hi) = [lo, hi] := by
  have h1 := lo.isLt
  have h2 := hi.isLt
  simp only [le16, List.cons.injEq, and_true]
  constructor <;> apply BitVec.eq_of_toNat_eq <;>
    rw [BitVec.extractLsb'_toNat, rd16_toNat, Nat.shiftRight_eq_div_pow] <;> omega

@[simp] theorem le16_length (v : Half) : (le16 v).length = 2 := rfl

/-- `LE16` as arithmetic. -/
theorem le16_eq (v : Half) : le16 v = [BitVec.ofNat 8 v.toNat, BitVec.ofNat 8 (v.toNat / 256)] := by
  have h : v = rd16 (BitVec.ofNat 8 v.toNat) (BitVec.ofNat 8 (v.toNat / 256)) := by
    apply BitVec.eq_of_toNat_eq
    rw [rd16_toNat]
    have := v.isLt
    simp only [BitVec.toNat_ofNat]
    omega
  rw [h, le16_rd16, ← h]

theorem packByte0_toNat (cls : BitVec 2) (subtype : BitVec 6) :
    (packByte0 cls subtype).toNat = cls.toNat + 4 * subtype.toNat := by
  unfold packByte0
  have := cls.isLt
  rw [BitVec.toNat_append, Nat.shiftLeft_eq, Nat.mul_comm, ← Nat.two_pow_add_eq_or_of_lt cls.isLt]
  omega

theorem classField_toNat (b0 : Byte) : (classField b0).toNat = b0.toNat % 4 := by
  simp [classField]

theorem subtypeField_toNat (b0 : Byte) : (subtypeField b0).toNat = b0.toNat / 4 := by
  have := b0.isLt
  simp only [subtypeField, BitVec.extractLsb'_toNat, Nat.shiftRight_eq_div_pow]
  omega

@[simp] theorem classField_packByte0 (cls : BitVec 2) (subtype : BitVec 6) : classField (packByte0 cls subtype) = cls := by
  apply BitVec.eq_of_toNat_eq
  have := cls.isLt
  rw [classField_toNat, packByte0_toNat]
  omega

@[simp] theorem subtypeField_packByte0 (cls : BitVec 2) (subtype : BitVec 6) :
    subtypeField (packByte0 cls subtype) = subtype := by
  apply BitVec.eq_of_toNat_eq
  have := cls.isLt
  rw [subtypeField_toNat, packByte0_toNat]
  omega

@[simp] theorem packByte0_fields (b0 : Byte) : packByte0 (classField b0) (subtypeField b0) = b0 := by
  apply BitVec.eq_of_toNat_eq
  rw [packByte0_toNat, classField_toNat, subtypeField_toNat]
  omega

/-- `class | subtype << 2` as arithmetic (R101). -/
theorem packByte0_eq (cls : BitVec 2) (subtype : BitVec 6) :
    packByte0 cls subtype = BitVec.ofNat 8 (cls.toNat + 4 * subtype.toNat) := by
  apply BitVec.eq_of_toNat_eq
  rw [packByte0_toNat, BitVec.toNat_ofNat]
  have := cls.isLt
  have := subtype.isLt
  omega

/-- A tag with open low bits, as arithmetic. -/
theorem openTag_toNat {h l : Nat} (high : BitVec h) (low : BitVec l) (hl : h + l = 8) :
    (openTag high low).toNat = high.toNat * 2 ^ l + low.toNat := by
  have h2 : (high ++ low).toNat < 2 ^ 8 := hl ▸ (high ++ low).isLt
  rw [openTag, BitVec.toNat_setWidth, Nat.mod_eq_of_lt h2, BitVec.toNat_append, Nat.shiftLeft_eq, Nat.mul_comm,
    ← Nat.two_pow_add_eq_or_of_lt low.isLt]

theorem readChecksum_isSome {cs : Bool} {after : Bytes} (h : after.length = if cs then 2 else 0) :
    (readChecksum cs after).isSome = cs := by
  cases cs with
  | false => rfl
  | true =>
    match after, h with
    | [_, _], _ => rfl

/-- All that splitting a byte string into a frame's fields can do (R100, R161). -/
theorem splitFrame_cases (b : Bytes) :
    (b.length < 4 ∧ splitFrame b = .error .truncatedFrame) ∨
    (∃ b0 flags seq n rest, b = b0 :: flags :: seq :: n :: rest ∧
      rest.length ≠ n.toNat + (if flags.getLsbD 1 then 2 else 0) ∧ splitFrame b = .error .lengthMismatch) ∨
    (∃ b0 flags seq n rest, b = b0 :: flags :: seq :: n :: rest ∧
      rest.length = n.toNat + (if flags.getLsbD 1 then 2 else 0) ∧
      splitFrame b = .ok ⟨classField b0, subtypeField b0,
        ⟨flags, seq, rest.take n.toNat, readChecksum (flags.getLsbD 1) (rest.drop n.toNat)⟩⟩) := by
  match b with
  | [] | [_] | [_, _] | [_, _, _] => exact .inl ⟨by simp, rfl⟩
  | b0 :: flags :: seq :: n :: rest =>
    right
    by_cases h : rest.length = n.toNat + (if flags.getLsbD 1 then 2 else 0)
    · exact .inr ⟨b0, flags, seq, n, rest, rfl, h, by rw [splitFrame, if_pos h]⟩
    · exact .inl ⟨b0, flags, seq, n, rest, rfl, h, by rw [splitFrame, if_neg h]⟩

/-- What splits has a well-formed tail (R100, R105). -/
theorem splitFrame_wf {b : Bytes} {p : FrameParts} (h : splitFrame b = .ok p) : p.tail.wf = true := by
  rcases splitFrame_cases b with ⟨_, h'⟩ | ⟨_, _, _, _, _, _, _, h'⟩ | ⟨b0, flags, seq, n, rest, _, hl, h'⟩
  · rw [h] at h'; cases h'
  · rw [h] at h'; cases h'
  · rw [h] at h'
    cases h'
    have hn := n.isLt
    have hd : (rest.drop n.toNat).length = if flags.getLsbD 1 then 2 else 0 := by
      rw [List.length_drop]; omega
    simp only [FrameTail.wf, readChecksum_isSome hd, List.length_take, Config.maxFramePayload, beq_self_eq_true,
      Bool.and_true, decide_eq_true_eq]
    omega

/-- The bytes of what splits are the bytes split (R100). -/
theorem splitFrame_bytes {b : Bytes} {p : FrameParts} (h : splitFrame b = .ok p) : p.bytes = b := by
  rcases splitFrame_cases b with ⟨_, h'⟩ | ⟨_, _, _, _, _, _, _, h'⟩ | ⟨b0, flags, seq, n, rest, hb, hl, h'⟩
  · rw [h] at h'; cases h'
  · rw [h] at h'; cases h'
  · rw [h] at h'
    cases h'
    subst hb
    have hn : BitVec.ofNat 8 (rest.take n.toNat).length = n := by
      apply BitVec.eq_of_toNat_eq
      have := n.isLt
      rw [List.length_take, Nat.min_eq_left (by omega), BitVec.toNat_ofNat]
      omega
    have hd : (rest.drop n.toNat).length = if flags.getLsbD 1 then 2 else 0 := by
      rw [List.length_drop]; omega
    have hc : ((readChecksum (flags.getLsbD 1) (rest.drop n.toNat)).map le16).getD [] = rest.drop n.toNat := by
      cases hcs : flags.getLsbD 1 with
      | false =>
        simp only [hcs, Bool.false_eq_true, if_false, List.length_eq_zero_iff] at hd
        simp [readChecksum, hd]
      | true =>
        simp only [hcs, if_true] at hd
        match h2 : rest.drop n.toNat, hd with
        | [lo, hi], _ => simp [readChecksum]
    simp only [FrameParts.bytes, packByte0_fields, hn, hc, List.take_append_drop]

/-- The bytes of well-formed fields split into those fields (R100). -/
theorem splitFrame_of_bytes {p : FrameParts} (h : p.tail.wf = true) : splitFrame p.bytes = .ok p := by
  obtain ⟨cls, subtype, flags, seq, payload, sum⟩ := p
  simp only [FrameTail.wf, Bool.and_eq_true, beq_iff_eq] at h
  obtain ⟨hl, hs⟩ := h
  replace hl : payload.length ≤ 255 := of_decide_eq_true hl
  have hn : (BitVec.ofNat 8 payload.length).toNat = payload.length := by
    rw [BitVec.toNat_ofNat]; omega
  unfold FrameParts.bytes splitFrame
  simp only [hn, classField_packByte0, subtypeField_packByte0]
  cases sum with
  | none =>
    have hs : flags.getLsbD 1 = false := hs.symm
    simp only [hs]
    simp [readChecksum]
  | some c =>
    have hs : flags.getLsbD 1 = true := hs.symm
    simp only [hs]
    simp [readChecksum, le16]

/-! ## Input transactions -/

/-- An `if` between two decodings that answers an instruction answers it in one of the two branches. -/
theorem ite_ok {c : Prop} [Decidable c] {a b : Except Reject Instr} {i : Instr} (h : (if c then a else b) = .ok i) :
    (c ∧ a = .ok i) ∨ (¬c ∧ b = .ok i) := by
  by_cases hc : c
  · exact .inl ⟨hc, by rwa [if_pos hc] at h⟩
  · exact .inr ⟨hc, by rwa [if_neg hc] at h⟩

/-- All the instructions an input transaction decodes to, each with its tag (R120). -/
theorem decodeInput_cases {b : Bytes} {i : Instr} (h : decode .input b = .ok i) :
    ∃ tag rest, b = tag :: rest ∧
      (tag = 0x00 ∧ i = .cmdIllegal00 rest ∨ tag = 0x01 ∧ i = .ready (readyArgs rest) ∨
       tag = 0x02 ∧ i = .send (sendArgs rest) ∨ tag = 0x03 ∧ i = .close (noArgs rest) ∨
       tag = 0x04 ∧ i = .query (noArgs rest) ∨ tag = 0x05 ∧ i = .cmdIllegal05 rest ∨
       tag.extractLsb' 1 7 = 0x03 ∧ i = .cmdIllegal06 (tag.extractLsb' 0 1) rest ∨
       tag.extractLsb' 3 5 = 0x01 ∧ i = .cmdIllegal08 (tag.extractLsb' 0 3) rest ∨
       tag.extractLsb' 4 4 = 0x1 ∧ i = .cmdIllegal10 (tag.extractLsb' 0 4) rest ∨
       tag.extractLsb' 5 3 = 0x1 ∧ i = .cmdIllegal20 (tag.extractLsb' 0 5) rest ∨
       tag.extractLsb' 6 2 = 0x1 ∧ i = .cmdIllegal40 (tag.extractLsb' 0 6) rest ∨
       tag = 0x80 ∧ i = .rxNotify rest ∨
       tag = 0x81 ∧ (∃ st, rest = [st] ∧ i = .writeDone st) ∨
       tag = 0x82 ∧ rest = [] ∧ i = .tick ∨ tag = 0x83 ∧ rest = [] ∧ i = .linkDown ∨
       tag.extractLsb' 2 6 = 0x21 ∧ i = .inputReserved84 (tag.extractLsb' 0 2) rest ∨
       tag.extractLsb' 3 5 = 0x11 ∧ i = .inputReserved88 (tag.extractLsb' 0 3) rest ∨
       tag.extractLsb' 4 4 = 0x9 ∧ i = .inputReserved90 (tag.extractLsb' 0 4) rest ∨
       tag.extractLsb' 5 3 = 0x5 ∧ i = .inputReservedA0 (tag.extractLsb' 0 5) rest ∨
       0xC0 ≤ tag.toNat ∧ i = .inputReservedC0 (tag.extractLsb' 0 6) rest) := by
  cases b with
  | nil => cases h
  | cons tag rest =>
    refine ⟨tag, rest, rfl, ?_⟩
    have inj {x : Instr} (e : (.ok x : Except Reject Instr) = .ok i) : i = x := (Except.ok.inj e).symm
    unfold decode decodeInput at h
    rcases ite_ok h with ⟨c, h⟩ | ⟨n0, h⟩; · exact .inl ⟨c, inj h⟩
    rcases ite_ok h with ⟨c, h⟩ | ⟨n1, h⟩; · exact .inr (.inl ⟨c, inj h⟩)
    rcases ite_ok h with ⟨c, h⟩ | ⟨n2, h⟩; · exact .inr (.inr (.inl ⟨c, inj h⟩))
    iterate 3 refine .inr ?_
    rcases ite_ok h with ⟨c, h⟩ | ⟨n3, h⟩; · exact .inl ⟨c, inj h⟩
    rcases ite_ok h with ⟨c, h⟩ | ⟨n4, h⟩; · exact .inr (.inl ⟨c, inj h⟩)
    rcases ite_ok h with ⟨c, h⟩ | ⟨n5, h⟩; · exact .inr (.inr (.inl ⟨c, inj h⟩))
    iterate 3 refine .inr ?_
    rcases ite_ok h with ⟨c, h⟩ | ⟨n6, h⟩; · exact .inl ⟨c, inj h⟩
    rcases ite_ok h with ⟨c, h⟩ | ⟨n7, h⟩; · exact .inr (.inl ⟨c, inj h⟩)
    rcases ite_ok h with ⟨c, h⟩ | ⟨n8, h⟩; · exact .inr (.inr (.inl ⟨c, inj h⟩))
    iterate 3 refine .inr ?_
    rcases ite_ok h with ⟨c, h⟩ | ⟨n9, h⟩; · exact .inl ⟨c, inj h⟩
    rcases ite_ok h with ⟨c, h⟩ | ⟨n10, h⟩; · exact .inr (.inl ⟨c, inj h⟩)
    rcases ite_ok h with ⟨c, h⟩ | ⟨n11, h⟩; · exact .inr (.inr (.inl ⟨c, inj h⟩))
    iterate 3 refine .inr ?_
    rcases ite_ok h with ⟨c, h⟩ | ⟨n12, h⟩
    · split at h
      · exact .inl ⟨c, _, rfl, inj h⟩
      · cases h
    rcases ite_ok h with ⟨c, h⟩ | ⟨n13, h⟩
    · rcases ite_ok h with ⟨e, h⟩ | ⟨_, h⟩
      · exact .inr (.inl ⟨c, List.isEmpty_iff.mp e, inj h⟩)
      · cases h
    rcases ite_ok h with ⟨c, h⟩ | ⟨n14, h⟩
    · rcases ite_ok h with ⟨e, h⟩ | ⟨_, h⟩
      · exact .inr (.inr (.inl ⟨c, List.isEmpty_iff.mp e, inj h⟩))
      · cases h
    iterate 3 refine .inr ?_
    rcases ite_ok h with ⟨c, h⟩ | ⟨n15, h⟩; · exact .inl ⟨c, inj h⟩
    rcases ite_ok h with ⟨c, h⟩ | ⟨n16, h⟩; · exact .inr (.inl ⟨c, inj h⟩)
    rcases ite_ok h with ⟨c, h⟩ | ⟨n17, h⟩; · exact .inr (.inr (.inl ⟨c, inj h⟩))
    iterate 3 refine .inr ?_
    rcases ite_ok h with ⟨c, h⟩ | ⟨n18, h⟩; · exact .inl ⟨c, inj h⟩
    refine .inr ⟨?_, inj h⟩
    have := tag.isLt
    clear h inj
    simp only [← BitVec.toNat_inj, BitVec.extractLsb'_toNat, Nat.shiftRight_eq_div_pow] at *
    simp only [BitVec.reduceToNat] at *
    omega

end Sys2Proof
end

