-- ==== Sys2Proof/Laws/Ops.lean ====
section
/-! SUPPORT. What the shared operations on registers do, each said once: the fatal entry (R340), TEARDOWN (R296), the
reliability layer (R232-R236), the arbiter (R245). -/

namespace Sys2Proof.Machine

/-! ## The fatal entry -/

/-- The events of a fatal entry: FATAL, then the end of an in-flight SEND (R340). -/
def fatalEvents (code : FatalCode) (s : State) : List Bytes :=
  if s.txState = .idle then [[0xC4, code.code]] else [[0xC4, code.code], [0xC1, 0x02, 0x23, code.code]]

/-- All that the fatal entry does (R340). -/
theorem fatalEntry_eq (code : FatalCode) (s : State) :
    fatalEntry code s =
      { s with
        fatal := true
        fatalCode := code.code
        raActive := false
        raTarget := 0
        raCount := 0
        raClass := .control
        raSubtype := 0
        raSeq := 0
        raFlags := 0
        ackq := []
        pendValid := false
        pendAcked := false
        pendRemain := 0
        txState := .idle
        out := s.out ++ fatalEvents code s } := by
  unfold fatalEntry fatalEvents
  by_cases h : s.txState = .idle <;> simp [h, emit, clearPending, clearAckq, clearReassembly, Status.code]

@[simp] theorem fatalEntry_params (code : FatalCode) (s : State) : (fatalEntry code s).params = s.params := by
  rw [fatalEntry_eq]
@[simp] theorem fatalEntry_fatal (code : FatalCode) (s : State) : (fatalEntry code s).fatal = true := by
  rw [fatalEntry_eq]
@[simp] theorem fatalEntry_sess (code : FatalCode) (s : State) : (fatalEntry code s).sess = s.sess := by
  rw [fatalEntry_eq]
@[simp] theorem fatalEntry_portBusy (code : FatalCode) (s : State) : (fatalEntry code s).portBusy = s.portBusy := by
  rw [fatalEntry_eq]
@[simp] theorem fatalEntry_txState (code : FatalCode) (s : State) : (fatalEntry code s).txState = .idle := by
  rw [fatalEntry_eq]
@[simp] theorem fatalEntry_ackq (code : FatalCode) (s : State) : (fatalEntry code s).ackq = [] := by
  rw [fatalEntry_eq]
@[simp] theorem fatalEntry_out (code : FatalCode) (s : State) :
    (fatalEntry code s).out = s.out ++ fatalEvents code s := by
  rw [fatalEntry_eq]

/-! ## TEARDOWN, CLOSE and LINK_DOWN -/

/-- All that `failSend` does (R297, R310). -/
theorem failSend_eq (st : Status) (s : State) :
    failSend st s = { s with out := s.out ++ if s.txState = .idle then [] else [[0xC1, 0x02, st.code, 0]] } := by
  unfold failSend
  by_cases h : s.txState = .idle
  · simp only [if_pos h, List.append_nil]
  · simp [h, emit]

/-- All that `releaseLink` does (R297). -/
theorem releaseLink_eq (s : State) :
    releaseLink s = { s with linkOpen := false, out := s.out ++ if s.linkOpen then [[0xC5]] else [] } := by
  unfold releaseLink
  by_cases h : s.linkOpen = true
  · simp [h, emit]
  · obtain ⟨p⟩ := s
    simp_all

/-! ## The reliability layer -/

/-- All that ADVANCE does (R234). -/
theorem advance_eq (s : State) :
    advance s = { s with
      txState := if s.txLast then .idle else .issue
      out := s.out ++ if s.txLast then [[0xC1, 0x02, 0x00, 0]] else [] } := by
  unfold advance
  by_cases h : s.txLast = true <;> simp [h, emit, Status.code]

/-- All that ACK_RESOLVE can do (R232). -/
theorem ackResolve_cases {p : Bytes} {s : State} {r : Except FatalCode State} (h : ackResolve p s = r) :
    (p = [] ∧ r = .error .malformedAck) ∨
    (∃ a q, p = a :: q ∧ s.pendValid = true ∧ s.pendSeq = a ∧ s.txState = .ackWait ∧
      r = .ok (advance { s with pendValid := false, pendRemain := 0 })) ∨
    (∃ a q, p = a :: q ∧ s.pendValid = true ∧ s.pendSeq = a ∧ s.txState ≠ .ackWait ∧
      r = .ok { s with pendValid := false, pendAcked := true }) ∨
    (∃ a q, p = a :: q ∧ ¬(s.pendValid = true ∧ s.pendSeq = a) ∧ r = .ok (emit [0xC3, 0x01, a] s)) := by
  cases p with
  | nil => exact .inl ⟨rfl, by simpa [ackResolve] using h.symm⟩
  | cons a q =>
    right
    by_cases hp : s.pendValid = true ∧ s.pendSeq = a
    · by_cases hw : s.txState = .ackWait
      · exact .inl ⟨a, q, rfl, hp.1, hp.2, hw, by simpa [ackResolve, hp, hw] using h.symm⟩
      · exact .inr (.inl ⟨a, q, rfl, hp.1, hp.2, hw, by simpa [ackResolve, hp, hw] using h.symm⟩)
    · refine .inr (.inr ⟨a, q, rfl, hp, ?_⟩)
      have : (s.pendValid && decide (s.pendSeq = a)) = false := by
        by_cases hv : s.pendValid = true <;> simp_all
      simpa [ackResolve, this, LogCode.code] using h.symm

/-- All that the timer step can do (R236). -/
theorem timerStep_cases (s : State) :
    (¬(s.pendValid = true ∧ s.txState = .ackWait) ∧ timerStep s = s) ∨
    (s.pendValid = true ∧ s.txState = .ackWait ∧ s.pendRemain ≠ 1 ∧
      timerStep s = { s with pendRemain := s.pendRemain - 1 }) ∨
    (s.pendValid = true ∧ s.txState = .ackWait ∧ s.pendRemain = 1 ∧
      timerStep s = { s with pendRemain := 0, pendValid := false, txState := .idle,
                             out := s.out ++ [[0xC1, 0x02, 0x05, 0]] }) := by
  by_cases h : s.pendValid = true ∧ s.txState = .ackWait
  · right
    by_cases h1 : s.pendRemain = 1
    · exact .inr ⟨h.1, h.2, h1, by simp [timerStep, h, h1, emit, Status.code]⟩
    · have : s.pendRemain - 1 ≠ 0 := by
        intro h0
        exact h1 (by bv_omega)
      refine .inl ⟨h.1, h.2, h1, ?_⟩
      unfold timerStep
      rw [if_pos (by simp [h])]
      exact if_neg this
  · refine .inl ⟨h, ?_⟩
    unfold timerStep
    split
    · rename_i hc
      simp only [Bool.and_eq_true, decide_eq_true_eq] at hc
      exact absurd hc h
    · rfl

/-- The sequences a frame adds to ACKQ under PER_FRAME (R240, R241). -/
def frameOwes (f : Frame) (s : State) : Bytes :=
  if s.params.ackPolicy = .perFrame ∧ f.cls = .data ∧ ackFlag f.flags = true then [f.seq] else []

/-- The sequences a message adds to ACKQ under PER_DELIVERY (R240, R241). -/
def messageOwes (m : Message) (s : State) : Bytes :=
  if s.params.ackPolicy = .perDelivery ∧ m.cls = .data ∧ ackFlag m.flags = true then [m.seq] else []

theorem oweFrameAck_eq (f : Frame) (s : State) : oweFrameAck f s = { s with ackq := s.ackq ++ frameOwes f s } := by
  unfold oweFrameAck frameOwes
  split <;> simp [ackqPush]

theorem oweMessageAck_eq (m : Message) (s : State) :
    oweMessageAck m s = { s with ackq := s.ackq ++ messageOwes m s } := by
  unfold oweMessageAck messageOwes
  split <;> simp [ackqPush]

/-! ## The arbiter -/

/-- FRAG_EMIT never leaves TX_BUF, and this is all it does (R181). -/
theorem fragEmit_eq (s : State) :
    fragEmit s =
      some (nextFragment s.txLen.toNat s.txOff.toNat (capEff s) (readBytes s.txBuf 0 s.txLen.toNat),
        { s with
          txOff := BitVec.ofNat 16
            (nextFragment s.txLen.toNat s.txOff.toNat (capEff s) (readBytes s.txBuf 0 s.txLen.toNat)).off
          txLast :=
            !(nextFragment s.txLen.toNat s.txOff.toNat (capEff s) (readBytes s.txBuf 0 s.txLen.toNat)).frag }) := by
  simp [fragEmit, memRead_half]

/-- The fragment the arbiter sends next (R180, R181). -/
def currentFragment (s : State) : Fragment :=
  nextFragment s.txLen.toNat s.txOff.toNat (capEff s) (readBytes s.txBuf 0 s.txLen.toNat)

/-- The state after the arbiter has issued the next frame of a SEND (R181, R230, R245). -/
def issued (s : State) : State :=
  { s with
    txOff := BitVec.ofNat 16 (currentFragment s).off
    txLast := !(currentFragment s).frag
    txSeq := s.txSeq + 1
    txCurSeq := s.txSeq
    pendValid := if s.txAckReq then true else s.pendValid
    pendSeq := if s.txAckReq then s.txSeq else s.pendSeq
    pendAcked := if s.txAckReq then false else s.pendAcked
    pendRemain := if s.txAckReq then 0 else s.pendRemain
    portBusy := true
    portOwner := .send
    txState := .writeWait
    out := s.out ++ [0xC0 :: encodeFrame Config.crc16 (sendFrame s s.txSeq (currentFragment s))] }

/-- Issuing the next frame of a SEND never leaves TX_BUF, and this is all it does (R245). -/
theorem issueSend_eq (s : State) : issueSend s = some (issued s) := by
  unfold issueSend issued currentFragment
  rw [fragEmit_eq]
  by_cases h : s.txAckReq = true
  · simp [h, emit, register, seqNext, sendFrame]
  · simp only [Bool.not_eq_true] at h
    simp [h, emit, seqNext, sendFrame]

/-- All that the arbiter can do (R245): nothing, the automatic ACK at the head of ACKQ, or the next frame of the SEND in
progress. It never stops. -/
theorem arbiter_cases (s : State) :
    ((s.portBusy = true ∨ listening s = false ∨ (s.ackq = [] ∧ s.txState ≠ .issue)) ∧ arbiter s = .next s) ∨
    (s.portBusy = false ∧ listening s = true ∧ ∃ a rest, s.ackq = a :: rest ∧ arbiter s = .next (issueAck a rest s)) ∨
    (s.portBusy = false ∧ listening s = true ∧ s.ackq = [] ∧ s.txState = .issue ∧ arbiter s = .next (issued s)) := by
  by_cases hb : s.portBusy = true
  · exact .inl ⟨.inl hb, by simp [arbiter, hb]⟩
  simp only [Bool.not_eq_true] at hb
  by_cases hl : listening s = true
  · cases hq : s.ackq with
    | cons a rest => exact .inr (.inl ⟨hb, hl, a, rest, rfl, by simp [arbiter, hb, hl, hq]⟩)
    | nil =>
      by_cases hi : s.txState = .issue
      · exact .inr (.inr ⟨hb, hl, rfl, hi, by simp [arbiter, hb, hl, hq, hi, issueSend_eq]⟩)
      · exact .inl ⟨.inr (.inr ⟨rfl, hi⟩), by simp [arbiter, hb, hl, hq, hi]⟩
  · simp only [Bool.not_eq_true] at hl
    exact .inl ⟨.inr (.inl hl), by simp [arbiter, hl]⟩

/-- What the arbiter answers is a next state. -/
theorem arbiter_next (s : State) : ∃ t, arbiter s = .next t := by
  rcases arbiter_cases s with ⟨_, h⟩ | ⟨_, _, a, rest, _, h⟩ | ⟨_, _, _, _, h⟩ <;> exact ⟨_, h⟩

end Sys2Proof.Machine
end

