-- ==== Sys2Proof/Laws/Inbound.lean ====
section
/-! SUPPORT. What the inbound pipeline can do (R190-R197, R212, R261, R300), each operation said once. -/

namespace Sys2Proof.Machine

/-- All that SEQ_CHECK can do (R212). -/
theorem seqCheck_cases (seq : Byte) (s : State) :
    (seq < s.rxExp ∧ seqCheck seq s = .error .sequenceViolation) ∨
    (s.rxExp ≤ seq ∧ seqCheck seq s = .ok { s with rxExp := nextExpected s seq }) := by
  by_cases h : seq < s.rxExp
  · exact .inl ⟨h, by simp [seqCheck, h]⟩
  · exact .inr ⟨BitVec.not_lt.mp h, by simp [seqCheck, h]⟩

/-- RA_BUF after the copy of `data` (R191, R192). -/
def copied (data : Bytes) (s : State) : Buffer := writeBytes s.raBuf s.raCount.toNat data

/-- All that the copy and the count check can do (R193, R194): they never leave RA_BUF. -/
theorem appendData_cases (data : Bytes) (s : State) :
    (s.raTarget.toNat < s.raCount.toNat + data.length ∧ appendData data s = .raised .fragmentOverflow s) ∨
    (s.raCount.toNat + data.length < s.raTarget.toNat ∧
      appendData data s = .awaiting
        { s with raBuf := copied data s, raCount := BitVec.ofNat 16 (s.raCount.toNat + data.length) }) ∨
    (s.raCount.toNat + data.length = s.raTarget.toNat ∧
      appendData data s = .delivered
        ⟨s.raClass, s.raSubtype, s.raSeq, s.raFlags, readBytes (copied data s) 0 s.raTarget.toNat⟩
        { clearReassembly s with raBuf := copied data s }) := by
  have ht := s.raTarget.isLt
  by_cases h1 : s.raTarget.toNat < s.raCount.toNat + data.length
  · exact .inl ⟨h1, by simp [appendData, h1]⟩
  · have hw : memWrite s.raBuf s.raCount.toNat data = some (copied data s) :=
      memWrite_inside _ (by simp only [Config.bufferSize]; omega)
    by_cases h2 : s.raCount.toNat + data.length = s.raTarget.toNat
    · refine .inr (.inr ⟨h2, ?_⟩)
      unfold appendData
      simp only [if_neg h1, hw, if_pos h2, memRead_half]
      rfl
    · refine .inr (.inl ⟨by omega, ?_⟩)
      unfold appendData
      simp only [if_neg h1, hw, if_neg h2]

/-- REASSEMBLE of an unfragmented frame outside a reassembly (R195). -/
theorem reassemble_whole {f : Frame} {s : State} (hf : fragFlag f.flags = false) (ha : s.raActive = false) :
    reassemble f s = .delivered (wholeMessage f) s := by
  simp [reassemble, hf, ha]

/-- REASSEMBLE of a final fragment (R192). -/
theorem reassemble_final {f : Frame} {s : State} (hf : fragFlag f.flags = false) (ha : s.raActive = true) :
    reassemble f s = appendData f.payload s := by
  simp [reassemble, hf, ha]

/-- REASSEMBLE of a fragment with room for its count (R191, R192). -/
theorem reassemble_more {f : Frame} {s : State} {lo hi : Byte} {data : Bytes} (hf : fragFlag f.flags = true)
    (hp : f.payload = lo :: hi :: data) :
    reassemble f s = appendData data (if s.raActive then s else startReassembly f (rd16 lo hi) s) := by
  unfold reassemble
  rw [if_pos hf, hp]
  by_cases ha : s.raActive = true
  · simp [ha]
  · simp only [Bool.not_eq_true] at ha
    simp [ha]

/-- REASSEMBLE of a fragment too short for its count (R196). -/
theorem reassemble_short {f : Frame} {s : State} (hf : fragFlag f.flags = true) (hp : f.payload.length < 2) :
    reassemble f s = .raised .fragmentTooShort s := by
  unfold reassemble
  rw [if_pos hf]
  match h : f.payload with
  | [] => rfl
  | [_] => rfl
  | _ :: _ :: _ => rw [h] at hp; simp at hp

/-- All that REASSEMBLE can do (R190). -/
theorem reassemble_cases (f : Frame) (s : State) :
    (fragFlag f.flags = false ∧ s.raActive = false ∧ reassemble f s = .delivered (wholeMessage f) s) ∨
    (fragFlag f.flags = true ∧ f.payload.length < 2 ∧ reassemble f s = .raised .fragmentTooShort s) ∨
    (∃ data, (fragFlag f.flags = false ∧ s.raActive = true ∧ data = f.payload ∨
        fragFlag f.flags = true ∧ s.raActive = true ∧ ∃ lo hi, f.payload = lo :: hi :: data) ∧
      reassemble f s = appendData data s) ∨
    (∃ lo hi data, fragFlag f.flags = true ∧ s.raActive = false ∧ f.payload = lo :: hi :: data ∧
      reassemble f s = appendData data (startReassembly f (rd16 lo hi) s)) := by
  by_cases hf : fragFlag f.flags = true
  · by_cases hp : f.payload.length < 2
    · exact .inr (.inl ⟨hf, hp, reassemble_short hf hp⟩)
    · obtain ⟨lo, hi, data, he⟩ : ∃ lo hi data, f.payload = lo :: hi :: data := by
        match h : f.payload with
        | [] => simp [h] at hp
        | [_] => simp [h] at hp
        | lo :: hi :: data => exact ⟨lo, hi, data, rfl⟩
      by_cases ha : s.raActive = true
      · exact .inr (.inr (.inl ⟨data, .inr ⟨hf, ha, lo, hi, he⟩, by rw [reassemble_more hf he, if_pos ha]⟩))
      · simp only [Bool.not_eq_true] at ha
        exact .inr (.inr (.inr ⟨lo, hi, data, hf, ha, he, by rw [reassemble_more hf he]; simp [ha]⟩))
  · simp only [Bool.not_eq_true] at hf
    by_cases ha : s.raActive = true
    · exact .inr (.inr (.inl ⟨f.payload, .inl ⟨hf, ha, rfl⟩, reassemble_final hf ha⟩))
    · simp only [Bool.not_eq_true] at ha
      exact .inl ⟨hf, ha, reassemble_whole hf ha⟩

theorem reassemble_inRange (f : Frame) (s : State) : reassemble f s ≠ .outOfRange := by
  rcases reassemble_cases f s with ⟨_, _, h⟩ | ⟨_, _, h⟩ | ⟨d, _, h⟩ | ⟨lo, hi, d, _, _, _, h⟩
  · simp [h]
  · simp [h]
  · rw [h]
    rcases appendData_cases d s with ⟨_, h⟩ | ⟨_, h⟩ | ⟨_, h⟩ <;> simp [h]
  · rw [h]
    rcases appendData_cases d (startReassembly f (rd16 lo hi) s) with ⟨_, h⟩ | ⟨_, h⟩ | ⟨_, h⟩ <;> simp [h]

/-- All that the pipeline after DECODE can do (R300). -/
theorem acceptFrame_cases (f : Frame) (s : State) :
    (f.seq < s.rxExp ∧ acceptFrame f s = .next (fatalEntry .sequenceViolation s)) ∨
    (s.rxExp ≤ f.seq ∧ ∃ u, u = { s with rxExp := nextExpected s f.seq } ∧
      ((f.cls = .control ∧ fragFlag f.flags = true ∧ acceptFrame f s = .next (fatalEntry .controlFragmented u)) ∨
       (¬(f.cls = .control ∧ fragFlag f.flags = true) ∧
        ((∃ code v, reassemble f u = .raised code v ∧ acceptFrame f s = .next (fatalEntry code v)) ∨
         (∃ v, reassemble f u = .awaiting v ∧ acceptFrame f s = .next (oweFrameAck f v)) ∨
         (∃ m v, reassemble f u = .delivered m v ∧
            acceptFrame f s = .next (finishMessage m (oweFrameAck f v))))))) := by
  rcases seqCheck_cases f.seq s with ⟨hs, h⟩ | ⟨hs, h⟩
  · exact .inl ⟨hs, by simp [acceptFrame, h]⟩
  · refine .inr ⟨hs, _, rfl, ?_⟩
    by_cases hc : f.cls = .control ∧ fragFlag f.flags = true
    · exact .inl ⟨hc.1, hc.2, by simp [acceptFrame, h, hc]⟩
    · refine .inr ⟨hc, ?_⟩
      unfold acceptFrame
      rw [h]
      simp only [if_neg hc, afterReassembly]
      cases hr : reassemble f { s with rxExp := nextExpected s f.seq } with
      | raised code v => exact .inl ⟨code, v, rfl, rfl⟩
      | awaiting v => exact .inr (.inl ⟨v, rfl, rfl⟩)
      | delivered m v => exact .inr (.inr ⟨m, v, rfl, rfl⟩)
      | outOfRange => exact absurd hr (reassemble_inRange _ _)

/-- The pipeline after DECODE always leads to a next state. -/
theorem acceptFrame_next (f : Frame) (s : State) : ∃ t, acceptFrame f s = .next t := by
  rcases acceptFrame_cases f s with ⟨_, h⟩ | ⟨_, _, _, ⟨_, _, h⟩ | ⟨_, ⟨_, _, _, h⟩ | ⟨_, _, h⟩ | ⟨_, _, _, h⟩⟩⟩ <;>
    exact ⟨_, h⟩

theorem afterDecode_next (r : Except FatalCode Frame) (s : State) : ∃ t, afterDecode r s = .next t := by
  cases r with
  | error c => exact ⟨_, rfl⟩
  | ok f => exact acceptFrame_next f s

/-- A notification that is not listened to (R301). -/
theorem notifyFrame_ignored {s : State} (h : listening s = false) (p : FrameParts) :
    notifyFrame p s = .next (emit [0xC3, 0x02, 0] s) := by
  simp [notifyFrame, h]

theorem notifyBytes_ignored {s : State} (h : listening s = false) (b : Bytes) :
    notifyBytes b s = .next (emit [0xC3, 0x02, 0] s) := by
  simp [notifyBytes, h]

theorem notifyFrame_next (p : FrameParts) (s : State) : ∃ t, notifyFrame p s = .next t := by
  unfold notifyFrame
  split
  · exact afterDecode_next _ _
  · exact ⟨_, rfl⟩

theorem notifyBytes_next (b : Bytes) (s : State) : ∃ t, notifyBytes b s = .next t := by
  unfold notifyBytes
  split
  · exact afterDecode_next _ _
  · exact ⟨_, rfl⟩

/-- A notification whose bytes split into a frame's fields is that frame (R126, R160). -/
theorem notifyBytes_split {b : Bytes} {p : FrameParts} (h : splitFrame b = .ok p) (s : State) :
    notifyBytes b s = notifyFrame p s := by
  simp [notifyBytes, notifyFrame, decodeFrameValue, h]

/-- The block is listening in READY without a fatal error, and only there (R36, R301). -/
theorem listening_iff {s : State} : listening s = true ↔ s.sess = .ready ∧ s.fatal = false := by
  simp [listening]

theorem listening_of {s : State} (hs : s.sess = .ready) (hf : s.fatal = false) : listening s = true :=
  listening_iff.mpr ⟨hs, hf⟩

/-- The DELIVER event with its length as arithmetic (R133). -/
theorem emitDeliver_event (b0 seq flags : Byte) (p : Bytes) (s : State) :
    emitDeliver b0 seq flags p s = emit (deliverEvent b0 seq flags p) s := by
  simp only [emitDeliver, deliverEvent, twoBytes, le16_eq]
  congr 1
  simp only [List.cons_append, List.nil_append, List.cons.injEq, true_and, and_true]
  constructor <;> apply BitVec.eq_of_toNat_eq <;> simp only [BitVec.toNat_ofNat] <;> omega

/-- SEQ_CHECK passes (R212). -/
theorem seqCheck_ok {q : Byte} {s : State} (h : s.rxExp ≤ q) :
    seqCheck q s = .ok { s with rxExp := nextExpected s q } := by
  rcases seqCheck_cases q s with ⟨h', _⟩ | ⟨_, h'⟩
  · exact absurd h (BitVec.not_le.mpr h')
  · exact h'

/-- The pipeline on a frame that passes SEQ_CHECK and is no Control fragment (R300). -/
theorem acceptFrame_heard {f : Frame} {s : State} (h : s.rxExp ≤ f.seq)
    (hc : ¬(f.cls = .control ∧ fragFlag f.flags = true)) :
    acceptFrame f s = afterReassembly f (reassemble f { s with rxExp := nextExpected s f.seq }) := by
  simp only [acceptFrame, seqCheck_ok h, if_neg hc]

/-- DECODE's checks on an intact frame of class Control or Data (R160). -/
theorem checkFrame_intact {cls : FrameClass} {subtype : BitVec 6} {t : FrameTail} (h : intact t) :
    checkFrame Config.crc16 ⟨cls.code, subtype, t⟩ = .ok ⟨cls, subtype, t.flags, t.seq, t.payload⟩ := by
  obtain ⟨hw, he, hc⟩ := h
  have hcls : frameClass cls.code = some cls := by cases cls <;> decide
  have hsum : (t.checksum.isSome && !(t.checksum == some (payloadChecksum Config.crc16 t.seq t.payload))) = false := by
    have hs : t.checksum.isSome = csFlag t.flags := by
      simp only [FrameTail.wf, Bool.and_eq_true, beq_iff_eq] at hw
      exact hw.2
    cases hcs : csFlag t.flags with
    | true => simp [hc hcs]
    | false => simp [hs, hcs]
  simp [checkFrame, hw, hcls, he, hsum]

/-- The pipeline on an intact frame while the block listens (R300). -/
theorem notifyFrame_intact {cls : FrameClass} {subtype : BitVec 6} {t : FrameTail} {s : State}
    (hl : listening s = true) (h : intact t) :
    notifyFrame ⟨cls.code, subtype, t⟩ s = acceptFrame ⟨cls, subtype, t.flags, t.seq, t.payload⟩ s := by
  simp [notifyFrame, hl, checkFrame_intact h, afterDecode]

/-- An unfragmented frame outside a reassembly, heard and accepted (R195, R300). -/
theorem notifyFrame_whole {cls : FrameClass} {subtype : BitVec 6} {t : FrameTail} {s : State}
    (hl : listening s = true) (ha : s.raActive = false) (hi : intact t) (hg : fragFlag t.flags = false)
    (hq : s.rxExp ≤ t.seq) :
    notifyFrame ⟨cls.code, subtype, t⟩ s =
      .next (finishMessage ⟨cls, subtype, t.seq, t.flags, t.payload⟩
        (oweFrameAck ⟨cls, subtype, t.flags, t.seq, t.payload⟩ { s with rxExp := nextExpected s t.seq })) := by
  rw [notifyFrame_intact hl hi, acceptFrame_heard hq (by simp [hg]), reassemble_whole hg (by simpa using ha)]
  rfl

end Sys2Proof.Machine
end

