-- ==== Sys2Proof/Laws/Payload.lean ====
section
/-! SUPPORT. What the reading of a SOFTAP_AUTH_MODE byte can be (R272). -/

namespace Sys2Proof.Machine.Payload

/-- All a mode byte can read as: a mode whose number it is, or, when it is the number of none, unnamed. -/
theorem authReading_cases (code : AuthMode → Byte) (b : Byte) :
    (∃ m, code m = b ∧ authReading code b = .named m) ∨ ((∀ m, code m ≠ b) ∧ authReading code b = .unnamed b) := by
  unfold authReading
  cases h : authModes.find? (fun m => code m == b) with
  | some m => exact .inl ⟨m, by simpa using List.find?_some h, rfl⟩
  | none =>
    refine .inr ⟨fun m => ?_, rfl⟩
    have hm : m ∈ authModes := by cases m <;> decide
    simpa using List.find?_eq_none.mp h m hm

/-- Under a numbering without repeats every mode is read back from its number. -/
theorem authModeUnder_code {code : AuthMode → Byte} (h : Function.Injective code) (m : AuthMode) :
    authModeUnder code [code m] = some (.named m) := by
  rcases authReading_cases code (code m) with ⟨n, hn, hr⟩ | ⟨hn, _⟩
  · exact congrArg some (hr.trans (congrArg _ (h hn)))
  · exact absurd rfl (hn m)

end Sys2Proof.Machine.Payload
end

