-- ==== Sys2Proof/Laws/PerInstr.lean ====
section
/-! SUPPORT. For every row of spec/opcode_table.json: byte 0 of an instruction's encoding, under the row's mask, is the
row's match. -/

namespace Sys2Proof.Laws

/-- The mask and the match of an instruction's row of spec/opcode_table.json. -/
def rowBits : Instr → Byte × Byte
  | .ctrlAck _ => (0xFF, 0x00)
  | .ctrlSetSecurityMode _ => (0xFF, 0x04)
  | .ctrlSetOpMode _ => (0xFF, 0x08)
  | .ctrlConnectWifi _ => (0xFF, 0x0C)
  | .ctrlDisconnectWifi _ => (0xFF, 0x10)
  | .ctrlGetWifiStatus _ => (0xFF, 0x14)
  | .ctrlDeauthenticate _ => (0xFF, 0x18)
  | .ctrlGetVersion _ => (0xFF, 0x1C)
  | .ctrlCloseConnection _ => (0xFF, 0x20)
  | .ctrlGetWifiList _ => (0xFF, 0x24)
  | .ctrlOther _ _ => (0x03, 0x00)
  | .dataSoftapMaxConnectionCount _ => (0xFF, 0x19)
  | .dataSoftapAuthMode _ => (0xFF, 0x1D)
  | .dataSoftapChannel _ => (0xFF, 0x21)
  | .dataWifiConnectionState _ => (0xFF, 0x3D)
  | .dataVersion _ => (0xFF, 0x41)
  | .dataWifiList _ => (0xFF, 0x45)
  | .dataError _ => (0xFF, 0x49)
  | .dataCustomData _ => (0xFF, 0x4D)
  | .dataOther _ _ => (0x03, 0x01)
  | .reservedClass _ _ _ => (0x02, 0x02)
  | .ready _ => (0xFF, 0x01)
  | .send _ => (0xFF, 0x02)
  | .close _ => (0xFF, 0x03)
  | .query _ => (0xFF, 0x04)
  | .cmdIllegal00 _ => (0xFF, 0x00)
  | .cmdIllegal05 _ => (0xFF, 0x05)
  | .cmdIllegal06 _ _ => (0xFE, 0x06)
  | .cmdIllegal08 _ _ => (0xF8, 0x08)
  | .cmdIllegal10 _ _ => (0xF0, 0x10)
  | .cmdIllegal20 _ _ => (0xE0, 0x20)
  | .cmdIllegal40 _ _ => (0xC0, 0x40)
  | .rxNotify _ => (0xFF, 0x80)
  | .writeDone _ => (0xFF, 0x81)
  | .tick => (0xFF, 0x82)
  | .linkDown => (0xFF, 0x83)
  | .inputReserved84 _ _ => (0xFC, 0x84)
  | .inputReserved88 _ _ => (0xF8, 0x88)
  | .inputReserved90 _ _ => (0xF0, 0x90)
  | .inputReservedA0 _ _ => (0xE0, 0xA0)
  | .inputReservedC0 _ _ => (0xC0, 0xC0)
  | .txWrite _ => (0xFF, 0xC0)
  | .cmdDone _ _ _ => (0xFF, 0xC1)
  | .deliver _ _ _ _ => (0xFF, 0xC2)
  | .log _ _ => (0xFF, 0xC3)
  | .fatal _ => (0xFF, 0xC4)
  | .release => (0xFF, 0xC5)
  | .queryResp _ => (0xFF, 0xC6)

/-- Byte 0 of the encoding fits the row (R100, R120, R130). -/
def OpcodeMatch.Statement (i : Instr) : Prop :=
  ∃ b rest, encode i = b :: rest ∧ b &&& (rowBits i).1 = (rowBits i).2

/-- A class field with nothing above it in the mask. -/
theorem packByte0_class (cls : BitVec 2) (subtype : BitVec 6) :
    packByte0 cls subtype &&& 0x03 = cls.setWidth 8 := by
  revert cls subtype; decide

/-- A reserved class has bit 1 of byte 0 set. -/
theorem packByte0_reserved (low : BitVec 1) (subtype : BitVec 6) :
    packByte0 ((1 : BitVec 1) ++ low : BitVec (1 + 1)) subtype &&& 0x02 = 0x02 := by
  revert low subtype; decide

theorem OpcodeMatch.ctrlAck (t : FrameTail) : OpcodeMatch.Statement (.ctrlAck t) :=
  ⟨packByte0 0 0, _, rfl, (by decide : packByte0 0 0 &&& 0xFF = 0x00)⟩
theorem OpcodeMatch.ctrlSetSecurityMode (t : FrameTail) : OpcodeMatch.Statement (.ctrlSetSecurityMode t) :=
  ⟨packByte0 0 1, _, rfl, (by decide : packByte0 0 1 &&& 0xFF = 0x04)⟩
theorem OpcodeMatch.ctrlSetOpMode (t : FrameTail) : OpcodeMatch.Statement (.ctrlSetOpMode t) :=
  ⟨packByte0 0 2, _, rfl, (by decide : packByte0 0 2 &&& 0xFF = 0x08)⟩
theorem OpcodeMatch.ctrlConnectWifi (t : FrameTail) : OpcodeMatch.Statement (.ctrlConnectWifi t) :=
  ⟨packByte0 0 3, _, rfl, (by decide : packByte0 0 3 &&& 0xFF = 0x0C)⟩
theorem OpcodeMatch.ctrlDisconnectWifi (t : FrameTail) : OpcodeMatch.Statement (.ctrlDisconnectWifi t) :=
  ⟨packByte0 0 4, _, rfl, (by decide : packByte0 0 4 &&& 0xFF = 0x10)⟩
theorem OpcodeMatch.ctrlGetWifiStatus (t : FrameTail) : OpcodeMatch.Statement (.ctrlGetWifiStatus t) :=
  ⟨packByte0 0 5, _, rfl, (by decide : packByte0 0 5 &&& 0xFF = 0x14)⟩
theorem OpcodeMatch.ctrlDeauthenticate (t : FrameTail) : OpcodeMatch.Statement (.ctrlDeauthenticate t) :=
  ⟨packByte0 0 6, _, rfl, (by decide : packByte0 0 6 &&& 0xFF = 0x18)⟩
theorem OpcodeMatch.ctrlGetVersion (t : FrameTail) : OpcodeMatch.Statement (.ctrlGetVersion t) :=
  ⟨packByte0 0 7, _, rfl, (by decide : packByte0 0 7 &&& 0xFF = 0x1C)⟩
theorem OpcodeMatch.ctrlCloseConnection (t : FrameTail) : OpcodeMatch.Statement (.ctrlCloseConnection t) :=
  ⟨packByte0 0 8, _, rfl, (by decide : packByte0 0 8 &&& 0xFF = 0x20)⟩
theorem OpcodeMatch.ctrlGetWifiList (t : FrameTail) : OpcodeMatch.Statement (.ctrlGetWifiList t) :=
  ⟨packByte0 0 9, _, rfl, (by decide : packByte0 0 9 &&& 0xFF = 0x24)⟩
theorem OpcodeMatch.ctrlOther (subtype : BitVec 6) (t : FrameTail) : OpcodeMatch.Statement (.ctrlOther subtype t) :=
  ⟨_, _, rfl, packByte0_class _ subtype⟩
theorem OpcodeMatch.dataSoftapMaxConnectionCount (t : FrameTail) : OpcodeMatch.Statement (.dataSoftapMaxConnectionCount t) :=
  ⟨packByte0 1 6, _, rfl, (by decide : packByte0 1 6 &&& 0xFF = 0x19)⟩
theorem OpcodeMatch.dataSoftapAuthMode (t : FrameTail) : OpcodeMatch.Statement (.dataSoftapAuthMode t) :=
  ⟨packByte0 1 7, _, rfl, (by decide : packByte0 1 7 &&& 0xFF = 0x1D)⟩
theorem OpcodeMatch.dataSoftapChannel (t : FrameTail) : OpcodeMatch.Statement (.dataSoftapChannel t) :=
  ⟨packByte0 1 8, _, rfl, (by decide : packByte0 1 8 &&& 0xFF = 0x21)⟩
theorem OpcodeMatch.dataWifiConnectionState (t : FrameTail) : OpcodeMatch.Statement (.dataWifiConnectionState t) :=
  ⟨packByte0 1 15, _, rfl, (by decide : packByte0 1 15 &&& 0xFF = 0x3D)⟩
theorem OpcodeMatch.dataVersion (t : FrameTail) : OpcodeMatch.Statement (.dataVersion t) :=
  ⟨packByte0 1 16, _, rfl, (by decide : packByte0 1 16 &&& 0xFF = 0x41)⟩
theorem OpcodeMatch.dataWifiList (t : FrameTail) : OpcodeMatch.Statement (.dataWifiList t) :=
  ⟨packByte0 1 17, _, rfl, (by decide : packByte0 1 17 &&& 0xFF = 0x45)⟩
theorem OpcodeMatch.dataError (t : FrameTail) : OpcodeMatch.Statement (.dataError t) :=
  ⟨packByte0 1 18, _, rfl, (by decide : packByte0 1 18 &&& 0xFF = 0x49)⟩
theorem OpcodeMatch.dataCustomData (t : FrameTail) : OpcodeMatch.Statement (.dataCustomData t) :=
  ⟨packByte0 1 19, _, rfl, (by decide : packByte0 1 19 &&& 0xFF = 0x4D)⟩
theorem OpcodeMatch.dataOther (subtype : BitVec 6) (t : FrameTail) : OpcodeMatch.Statement (.dataOther subtype t) :=
  ⟨_, _, rfl, packByte0_class _ subtype⟩
theorem OpcodeMatch.reservedClass (low : BitVec 1) (subtype : BitVec 6) (t : FrameTail) : OpcodeMatch.Statement (.reservedClass low subtype t) :=
  ⟨_, _, rfl, packByte0_reserved low subtype⟩
theorem OpcodeMatch.ready (a : ReadyArgs) : OpcodeMatch.Statement (.ready a) :=
  ⟨0x01, _, rfl, (by decide : (0x01 : Byte) &&& 0xFF = 0x01)⟩
theorem OpcodeMatch.send (a : SendArgs) : OpcodeMatch.Statement (.send a) :=
  ⟨0x02, _, rfl, (by decide : (0x02 : Byte) &&& 0xFF = 0x02)⟩
theorem OpcodeMatch.close (a : NoArgs) : OpcodeMatch.Statement (.close a) :=
  ⟨0x03, _, rfl, (by decide : (0x03 : Byte) &&& 0xFF = 0x03)⟩
theorem OpcodeMatch.query (a : NoArgs) : OpcodeMatch.Statement (.query a) :=
  ⟨0x04, _, rfl, (by decide : (0x04 : Byte) &&& 0xFF = 0x04)⟩
theorem OpcodeMatch.cmdIllegal00 (rest : Bytes) : OpcodeMatch.Statement (.cmdIllegal00 rest) :=
  ⟨0x00, _, rfl, (by decide : (0x00 : Byte) &&& 0xFF = 0x00)⟩
theorem OpcodeMatch.cmdIllegal05 (rest : Bytes) : OpcodeMatch.Statement (.cmdIllegal05 rest) :=
  ⟨0x05, _, rfl, (by decide : (0x05 : Byte) &&& 0xFF = 0x05)⟩
theorem OpcodeMatch.cmdIllegal06 (low : BitVec 1) (rest : Bytes) : OpcodeMatch.Statement (.cmdIllegal06 low rest) :=
  ⟨_, _, rfl, by show openTag (3 : BitVec 7) low &&& 0xFE = 0x06; revert low; decide⟩
theorem OpcodeMatch.cmdIllegal08 (low : BitVec 3) (rest : Bytes) : OpcodeMatch.Statement (.cmdIllegal08 low rest) :=
  ⟨_, _, rfl, by show openTag (1 : BitVec 5) low &&& 0xF8 = 0x08; revert low; decide⟩
theorem OpcodeMatch.cmdIllegal10 (low : BitVec 4) (rest : Bytes) : OpcodeMatch.Statement (.cmdIllegal10 low rest) :=
  ⟨_, _, rfl, by show openTag (1 : BitVec 4) low &&& 0xF0 = 0x10; revert low; decide⟩
theorem OpcodeMatch.cmdIllegal20 (low : BitVec 5) (rest : Bytes) : OpcodeMatch.Statement (.cmdIllegal20 low rest) :=
  ⟨_, _, rfl, by show openTag (1 : BitVec 3) low &&& 0xE0 = 0x20; revert low; decide⟩
theorem OpcodeMatch.cmdIllegal40 (low : BitVec 6) (rest : Bytes) : OpcodeMatch.Statement (.cmdIllegal40 low rest) :=
  ⟨_, _, rfl, by show openTag (1 : BitVec 2) low &&& 0xC0 = 0x40; revert low; decide⟩
theorem OpcodeMatch.rxNotify (bytes : Bytes) : OpcodeMatch.Statement (.rxNotify bytes) :=
  ⟨0x80, _, rfl, (by decide : (0x80 : Byte) &&& 0xFF = 0x80)⟩
theorem OpcodeMatch.writeDone (st : Byte) : OpcodeMatch.Statement (.writeDone st) :=
  ⟨0x81, _, rfl, (by decide : (0x81 : Byte) &&& 0xFF = 0x81)⟩
theorem OpcodeMatch.tick : OpcodeMatch.Statement .tick :=
  ⟨0x82, _, rfl, (by decide : (0x82 : Byte) &&& 0xFF = 0x82)⟩
theorem OpcodeMatch.linkDown : OpcodeMatch.Statement .linkDown :=
  ⟨0x83, _, rfl, (by decide : (0x83 : Byte) &&& 0xFF = 0x83)⟩
theorem OpcodeMatch.inputReserved84 (low : BitVec 2) (rest : Bytes) : OpcodeMatch.Statement (.inputReserved84 low rest) :=
  ⟨_, _, rfl, by show openTag (33 : BitVec 6) low &&& 0xFC = 0x84; revert low; decide⟩
theorem OpcodeMatch.inputReserved88 (low : BitVec 3) (rest : Bytes) : OpcodeMatch.Statement (.inputReserved88 low rest) :=
  ⟨_, _, rfl, by show openTag (17 : BitVec 5) low &&& 0xF8 = 0x88; revert low; decide⟩
theorem OpcodeMatch.inputReserved90 (low : BitVec 4) (rest : Bytes) : OpcodeMatch.Statement (.inputReserved90 low rest) :=
  ⟨_, _, rfl, by show openTag (9 : BitVec 4) low &&& 0xF0 = 0x90; revert low; decide⟩
theorem OpcodeMatch.inputReservedA0 (low : BitVec 5) (rest : Bytes) : OpcodeMatch.Statement (.inputReservedA0 low rest) :=
  ⟨_, _, rfl, by show openTag (5 : BitVec 3) low &&& 0xE0 = 0xA0; revert low; decide⟩
theorem OpcodeMatch.inputReservedC0 (low : BitVec 6) (rest : Bytes) : OpcodeMatch.Statement (.inputReservedC0 low rest) :=
  ⟨_, _, rfl, by show openTag (3 : BitVec 2) low &&& 0xC0 = 0xC0; revert low; decide⟩
theorem OpcodeMatch.txWrite (frame : Bytes) : OpcodeMatch.Statement (.txWrite frame) :=
  ⟨0xC0, _, rfl, (by decide : (0xC0 : Byte) &&& 0xFF = 0xC0)⟩
theorem OpcodeMatch.cmdDone (op status detail : Byte) : OpcodeMatch.Statement (.cmdDone op status detail) :=
  ⟨0xC1, _, rfl, (by decide : (0xC1 : Byte) &&& 0xFF = 0xC1)⟩
theorem OpcodeMatch.deliver (b0 seq flags : Byte) (payload : Bytes) : OpcodeMatch.Statement (.deliver b0 seq flags payload) :=
  ⟨0xC2, _, rfl, (by decide : (0xC2 : Byte) &&& 0xFF = 0xC2)⟩
theorem OpcodeMatch.log (code arg : Byte) : OpcodeMatch.Statement (.log code arg) :=
  ⟨0xC3, _, rfl, (by decide : (0xC3 : Byte) &&& 0xFF = 0xC3)⟩
theorem OpcodeMatch.fatal (code : Byte) : OpcodeMatch.Statement (.fatal code) :=
  ⟨0xC4, _, rfl, (by decide : (0xC4 : Byte) &&& 0xFF = 0xC4)⟩
theorem OpcodeMatch.release : OpcodeMatch.Statement .release :=
  ⟨0xC5, _, rfl, (by decide : (0xC5 : Byte) &&& 0xFF = 0xC5)⟩
theorem OpcodeMatch.queryResp (snapshot : Bytes) : OpcodeMatch.Statement (.queryResp snapshot) :=
  ⟨0xC6, _, rfl, (by decide : (0xC6 : Byte) &&& 0xFF = 0xC6)⟩

end Sys2Proof.Laws
end

