-- ==== Sys2Proof/Laws/Step.lean ====
section
/-! SUPPORT. What a step can do, said once: taking a transaction (R89, R243), the frame rows as notifications (R126), the
inversion of a step into its transaction and its arbiter (R16). -/

namespace Sys2Proof.Machine

/-- A frame row's meaning is the notification of its frame. -/
theorem exec_frame {i : Instr} {p : FrameParts} (h : i.frameParts = some p) (s : State) : exec i s = notifyFrame p s := by
  cases i <;> simp only [Instr.frameParts, Option.some.injEq, reduceCtorEq] at h <;> subst h <;> rfl

/-- The encoding of a frame row is its fields' bytes. -/
theorem encode_frame {i : Instr} {p : FrameParts} (h : i.frameParts = some p) : encode i = p.bytes := by
  cases i <;> simp only [Instr.frameParts, Option.some.injEq, reduceCtorEq] at h <;> subst h <;> rfl

/-- A well-formed frame row has a well-formed tail. -/
theorem frameParts_wf {i : Instr} {p : FrameParts} (h : i.frameParts = some p) (hw : i.wf = true) : p.tail.wf = true := by
  cases i <;> simp only [Instr.frameParts, Option.some.injEq, reduceCtorEq] at h <;> subst h <;>
    simp_all [Instr.wf]

/-- Taking a transaction changes nothing but the waiting ones. -/
theorem fetch_cases {s u : State} {t : Bytes} (h : fetch s = some (t, u)) : ∃ rest, u = { s with input := rest } := by
  simp only [fetch, Option.map_eq_some_iff, Prod.mk.injEq] at h
  obtain ⟨r, _, _, rfl⟩ := h
  exact ⟨_, rfl⟩

/-- The transaction taken is one of an enabled port (R243). -/
theorem takeEnabled_enabled {held : Bool} {ts : List Bytes} {r : Bytes × List Bytes} (h : takeEnabled held ts = some r) :
    (held && isRx r.1) = false := by
  induction ts generalizing r with
  | nil => simp [takeEnabled] at h
  | cons t ts ih =>
    unfold takeEnabled at h
    split at h
    · obtain ⟨q, hq, rfl⟩ := Option.map_eq_some_iff.mp h
      exact ih (r := q) hq
    · rename_i hc
      cases h
      exact Bool.eq_false_iff.mpr hc

/-- An RX_NOTIFY is taken only while ACKQ has room (R300). -/
theorem fetch_rx {s u : State} {b : Bytes} (h : fetch s = some (0x80 :: b, u)) : rxEnabled u = true := by
  obtain ⟨rest, hu⟩ := fetch_cases h
  simp only [fetch, Option.map_eq_some_iff, Prod.mk.injEq] at h
  obtain ⟨r, hr, hb, _⟩ := h
  have := takeEnabled_enabled hr
  rw [hb] at this
  subst hu
  simpa [isRx, rxEnabled] using this

/-- All that a step can do (R16): wait, or take one transaction, run its meaning and then the arbiter. -/
theorem step_cases {s t : State} (h : step s = .next t) :
    (fetch s = none ∧ t = s) ∨
    ∃ b u i v, fetch s = some (b, u) ∧ decode .input b = .ok i ∧ exec i u = .next v ∧ arbiter v = .next t := by
  unfold step at h
  split at h
  · exact .inl ⟨‹_›, by simpa using h.symm⟩
  · rename_i b u hf
    unfold transact at h
    split at h
    · cases h
    · rename_i i hd
      cases he : exec i u with
      | next v => exact .inr ⟨b, u, i, v, hf, hd, he, by simpa [thenArbiter, he] using h⟩
      | fault r => simp [thenArbiter, he] at h
      | refused r => simp [thenArbiter, he] at h

end Sys2Proof.Machine
end

