-- ==== Sys2Proof/Tests/Slice0.lean ====
section
/-! SUPPORT. Decoding of words written out from the spec's layouts, the WellFormed smoke tests, single steps, and for
every statement with hypotheses a concrete state and operands that meet them. Frames carry no checksum where a value is
computed, since CRC16 has no body. -/

namespace Sys2Proof.Tests

open Sys2Proof.Machine

/-! ## Decoding, every row (byte 0: class | subtype << 2, R101; tags: R120, R130) -/

/-- Control rows: byte 0 = 4 * subtype; flags 0, sequence 5, length 0. R107. -/
theorem test_decode_control_rows :
    decode .frame [0x00, 0x00, 0x05, 0x01, 0x09] = .ok (.ctrlAck ⟨0, 5, [9], none⟩) ∧
    decode .frame [0x04, 0x00, 0x05, 0x00] = .ok (.ctrlSetSecurityMode ⟨0, 5, [], none⟩) ∧
    decode .frame [0x08, 0x00, 0x05, 0x00] = .ok (.ctrlSetOpMode ⟨0, 5, [], none⟩) ∧
    decode .frame [0x0C, 0x00, 0x05, 0x00] = .ok (.ctrlConnectWifi ⟨0, 5, [], none⟩) ∧
    decode .frame [0x10, 0x00, 0x05, 0x00] = .ok (.ctrlDisconnectWifi ⟨0, 5, [], none⟩) ∧
    decode .frame [0x14, 0x00, 0x05, 0x00] = .ok (.ctrlGetWifiStatus ⟨0, 5, [], none⟩) ∧
    decode .frame [0x18, 0x00, 0x05, 0x00] = .ok (.ctrlDeauthenticate ⟨0, 5, [], none⟩) ∧
    decode .frame [0x1C, 0x0A, 0x03, 0x00, 0x53, 0x55] = .ok (.ctrlGetVersion ⟨0x0A, 3, [], some 0x5553⟩) ∧
    decode .frame [0x20, 0x00, 0x05, 0x00] = .ok (.ctrlCloseConnection ⟨0, 5, [], none⟩) ∧
    decode .frame [0x24, 0x00, 0x05, 0x00] = .ok (.ctrlGetWifiList ⟨0, 5, [], none⟩) ∧
    decode .frame [0x28, 0x00, 0x05, 0x00] = .ok (.ctrlOther 10 ⟨0, 5, [], none⟩) ∧
    decode .frame [0xFC, 0x00, 0x05, 0x00] = .ok (.ctrlOther 63 ⟨0, 5, [], none⟩) :=
  ⟨rfl, rfl, rfl, rfl, rfl, rfl, rfl, rfl, rfl, rfl, rfl, rfl⟩

/-- Data rows: byte 0 = 1 + 4 * subtype (R108), and the reserved classes 2 and 3 (R103). -/
theorem test_decode_data_rows :
    decode .frame [0x19, 0x00, 0x05, 0x01, 0x04] = .ok (.dataSoftapMaxConnectionCount ⟨0, 5, [4], none⟩) ∧
    decode .frame [0x1D, 0x00, 0x05, 0x00] = .ok (.dataSoftapAuthMode ⟨0, 5, [], none⟩) ∧
    decode .frame [0x21, 0x00, 0x05, 0x00] = .ok (.dataSoftapChannel ⟨0, 5, [], none⟩) ∧
    decode .frame [0x3D, 0x00, 0x05, 0x00] = .ok (.dataWifiConnectionState ⟨0, 5, [], none⟩) ∧
    decode .frame [0x41, 0x04, 0x00, 0x02, 0x01, 0x00] = .ok (.dataVersion ⟨4, 0, [1, 0], none⟩) ∧
    decode .frame [0x45, 0x00, 0x05, 0x00] = .ok (.dataWifiList ⟨0, 5, [], none⟩) ∧
    decode .frame [0x49, 0x00, 0x05, 0x00] = .ok (.dataError ⟨0, 5, [], none⟩) ∧
    decode .frame [0x4D, 0x00, 0x05, 0x00] = .ok (.dataCustomData ⟨0, 5, [], none⟩) ∧
    decode .frame [0x01, 0x00, 0x05, 0x00] = .ok (.dataOther 0 ⟨0, 5, [], none⟩) ∧
    decode .frame [0x51, 0x00, 0x05, 0x00] = .ok (.dataOther 20 ⟨0, 5, [], none⟩) ∧
    decode .frame [0x02, 0x00, 0x05, 0x00] = .ok (.reservedClass 0 0 ⟨0, 5, [], none⟩) ∧
    decode .frame [0x07, 0x00, 0x05, 0x00] = .ok (.reservedClass 1 1 ⟨0, 5, [], none⟩) :=
  ⟨rfl, rfl, rfl, rfl, rfl, rfl, rfl, rfl, rfl, rfl, rfl, rfl⟩

/-- Host commands and the unassigned CMD tags (R121-R125). -/
theorem test_decode_commands :
    decode .input [0x01, 0x34, 0x12] = .ok (.ready (.capacity 0x1234)) ∧
    decode .input [0x01, 0x34] = .ok (.ready (.badLength [0x34])) ∧
    decode .input [0x02, 0x1C, 0x03, 0x34, 0x12, 0x01, 0x00, 0x77] = .ok (.send (.message 0x1C 3 0x1234 [0x77])) ∧
    decode .input [0x02, 0x1C, 0x03, 0x00, 0x00, 0x02, 0x00, 0x77] =
      .ok (.send (.badLength [0x1C, 0x03, 0x00, 0x00, 0x02, 0x00, 0x77])) ∧
    decode .input [0x03] = .ok (.close .exact) ∧ decode .input [0x03, 0x00] = .ok (.close (.badLength [0x00])) ∧
    decode .input [0x04] = .ok (.query .exact) ∧
    decode .input [0x00, 0x55] = .ok (.cmdIllegal00 [0x55]) ∧ decode .input [0x05] = .ok (.cmdIllegal05 []) ∧
    decode .input [0x06] = .ok (.cmdIllegal06 0 []) ∧ decode .input [0x0F] = .ok (.cmdIllegal08 7 []) ∧
    decode .input [0x1F] = .ok (.cmdIllegal10 15 []) ∧ decode .input [0x20] = .ok (.cmdIllegal20 0 []) ∧
    decode .input [0x7F] = .ok (.cmdIllegal40 63 []) :=
  ⟨rfl, rfl, rfl, rfl, rfl, rfl, rfl, rfl, rfl, rfl, rfl, rfl, rfl, rfl⟩

/-- Transport and timebase events, the reserved tags, and what decodes to nothing (R126-R129). -/
theorem test_decode_events :
    decode .input [0x80] = .ok (.rxNotify []) ∧ decode .input [0x81, 0x07] = .ok (.writeDone 7) ∧
    decode .input [0x82] = .ok .tick ∧ decode .input [0x83] = .ok .linkDown ∧
    decode .input [0x84] = .ok (.inputReserved84 0 []) ∧ decode .input [0x8F] = .ok (.inputReserved88 7 []) ∧
    decode .input [0x90] = .ok (.inputReserved90 0 []) ∧ decode .input [0xBF] = .ok (.inputReservedA0 31 []) ∧
    decode .input [0xC0, 0x01] = .ok (.inputReservedC0 0 [0x01]) ∧
    decode .input [0x81] = .error (.malformedEvent 0x81) ∧ decode .input [0x82, 0x00] = .error (.malformedEvent 0x82) ∧
    decode .input [0x83, 0x00] = .error (.malformedEvent 0x83) ∧ decode .input [] = .error .empty :=
  ⟨rfl, rfl, rfl, rfl, rfl, rfl, rfl, rfl, rfl, rfl, rfl, rfl, rfl⟩

/-- Output events (R131-R137) and bytes that are none. -/
theorem test_decode_outputs :
    decode .output [0xC0, 0x1C, 0x00, 0x00, 0x00] = .ok (.txWrite [0x1C, 0x00, 0x00, 0x00]) ∧
    decode .output [0xC1, 0x02, 0x23, 0x03] = .ok (.cmdDone 2 0x23 3) ∧
    decode .output [0xC2, 0x41, 0x00, 0x04, 0x02, 0x00, 0x01, 0x00] = .ok (.deliver 0x41 0 4 [1, 0]) ∧
    decode .output [0xC3, 0x01, 0x09] = .ok (.log 1 9) ∧ decode .output [0xC4, 0x03] = .ok (.fatal 3) ∧
    decode .output [0xC5] = .ok .release ∧
    decode .output (0xC6 :: List.replicate 26 0) = .ok (.queryResp (List.replicate 26 0)) ∧
    decode .output [0xC4] = .error (.notAnEvent 0xC4) ∧ decode .output [0xC7] = .error (.notAnEvent 0xC7) :=
  ⟨rfl, rfl, rfl, rfl, rfl, rfl, rfl, rfl, rfl⟩

/-- Table words: a named row of each format, an OTHER row and an unassigned tag (log entry 7). -/
theorem test_table_words :
    decodeTableWord 8 0x0C = some (.ctrlConnectWifi ⟨0, 0, [], none⟩) ∧
    decodeTableWord 8 0x41 = some (.dataVersion ⟨0, 0, [], none⟩) ∧
    decodeTableWord 8 0x01 = some (.ready (.capacity 0)) ∧
    decodeTableWord 8 0x02 = some (.send (.message 0 0 0 [])) ∧
    decodeTableWord 8 0x81 = some (.writeDone 0) ∧ decodeTableWord 8 0x05 = some (.cmdIllegal05 []) ∧
    decodeTableWord 8 0xC5 = some .release ∧ decodeTableWord 8 0x90 = some (.inputReserved90 0 []) :=
  ⟨rfl, rfl, rfl, rfl, rfl, rfl, rfl, rfl⟩

/-! ## WellFormed: every check refuses an ill-formed term -/

theorem test_wf_payload_too_long (p : Bytes) (h : p.length = 256) : (Instr.ctrlAck ⟨0, 0, p, none⟩).wf = false := by
  simp [Instr.wf, FrameTail.wf, Config.maxFramePayload, h]
theorem test_wf_checksum_missing : (Instr.dataError ⟨2, 0, [], none⟩).wf = false := by decide
theorem test_wf_checksum_unflagged : (Instr.reservedClass 0 0 ⟨0, 0, [], some 0⟩).wf = false := by decide
theorem test_wf_control_named : (Instr.ctrlOther 9 ⟨0, 0, [], none⟩).wf = false := by decide
theorem test_wf_data_named :
    (Instr.dataOther 8 ⟨0, 0, [], none⟩).wf = false ∧ (Instr.dataOther 15 ⟨0, 0, [], none⟩).wf = false := by decide
theorem test_wf_ready_length : (Instr.ready (.badLength [0, 0])).wf = false := by decide
theorem test_wf_send_length : (Instr.send (.badLength [0, 0, 0, 0, 1, 0, 9])).wf = false := by decide
theorem test_wf_send_payload (p : Bytes) (h : p.length = 65536) : (Instr.send (.message 0 0 0 p)).wf = false := by
  simp [Instr.wf, SendArgs.wf, Config.maxPayload, h]
theorem test_wf_close_length : (Instr.close (.badLength [])).wf = false := by decide
theorem test_wf_query_length : (Instr.query (.badLength [])).wf = false := by decide
theorem test_wf_frame_shape : (Instr.txWrite [0x1C, 0, 0, 1]).wf = false := by decide
theorem test_wf_deliver_payload (p : Bytes) (h : p.length = 65536) : (Instr.deliver 0 0 0 p).wf = false := by
  simp [Instr.wf, Config.maxPayload, h]
theorem test_wf_snapshot : (Instr.queryResp [0]).wf = false := by decide

/-! ## Sample states -/

/-- Two owed ACKs fit, the default timeout is three ticks. -/
def params : Params := ⟨.perFrame, .increment, 2, 3⟩

/-- Right after reset. -/
def fresh : State := State.resetWith params [] []

/-- An open session with nothing in progress. -/
def opened : State := { fresh with sess := .ready, linkOpen := true, cap := 47 }

/-- The same, its parameters those of the other policy and update. -/
def openedOther : State := { opened with params := ⟨.perDelivery, .resync, 1, 3⟩ }

/-- An open session that has turned fatal. -/
def dead : State := { opened with fatal := true, fatalCode := 3 }

/-- A closed session. -/
def ended : State := { fresh with sess := .closed, cap := 47 }

/-- The one frame of a SEND that asks for an ACK is being written; its sequence is 7. -/
def writing : State :=
  { opened with
    txState := .writeWait, txAckReq := true, txLast := true, txClass := .data, txSubtype := 19, txCurSeq := 7, txSeq := 8
    txLen := 1, txOff := 1, txTimeout := 3, pendValid := true, pendSeq := 7, portBusy := true, txBuf := [(0, 0xAA)] }

/-- The same frame waits for its ACK. -/
def awaiting : State := { writing with txState := .ackWait, portBusy := false, pendRemain := 3 }

/-- The same, with the notification of its ACK at the RX port. -/
def answered : State := { awaiting with input := [[0x80, 0x00, 0x00, 0x00, 0x01, 0x07]] }

/-- A message of five bytes of which two have come. -/
def partway : State :=
  { opened with
    raActive := true, raTarget := 5, raCount := 2, raClass := .data, raSubtype := 19, raSeq := 1, raFlags := 0x18
    rxExp := 2, raBuf := [(0, 0xAA), (1, 0xBB)] }

/-- A SEND is ready to issue its next frame. -/
def issuing : State := { writing with txState := .issue, txOff := 0, pendValid := false, portBusy := false }

theorem sound_fresh : Sound fresh := by
  refine ⟨⟨?_, ?_, ?_, ?_, ?_, ?_, ?_, ?_, ?_⟩, ⟨?_, ?_⟩, ?_, ?_, ?_, ?_, ?_, ?_, ?_, ?_, ?_, ?_, ?_, ?_⟩ <;> decide
theorem sound_opened : Sound opened := by
  refine ⟨⟨?_, ?_, ?_, ?_, ?_, ?_, ?_, ?_, ?_⟩, ⟨?_, ?_⟩, ?_, ?_, ?_, ?_, ?_, ?_, ?_, ?_, ?_, ?_, ?_, ?_⟩ <;> decide
theorem sound_dead : Sound dead := by
  refine ⟨⟨?_, ?_, ?_, ?_, ?_, ?_, ?_, ?_, ?_⟩, ⟨?_, ?_⟩, ?_, ?_, ?_, ?_, ?_, ?_, ?_, ?_, ?_, ?_, ?_, ?_⟩ <;> decide
theorem sound_writing : Sound writing := by
  refine ⟨⟨?_, ?_, ?_, ?_, ?_, ?_, ?_, ?_, ?_⟩, ⟨?_, ?_⟩, ?_, ?_, ?_, ?_, ?_, ?_, ?_, ?_, ?_, ?_, ?_, ?_⟩ <;> decide
theorem sound_awaiting : Sound awaiting := by
  refine ⟨⟨?_, ?_, ?_, ?_, ?_, ?_, ?_, ?_, ?_⟩, ⟨?_, ?_⟩, ?_, ?_, ?_, ?_, ?_, ?_, ?_, ?_, ?_, ?_, ?_, ?_⟩ <;> decide
theorem sound_answered : Sound answered := by
  refine ⟨⟨?_, ?_, ?_, ?_, ?_, ?_, ?_, ?_, ?_⟩, ⟨?_, ?_⟩, ?_, ?_, ?_, ?_, ?_, ?_, ?_, ?_, ?_, ?_, ?_, ?_⟩ <;> decide
theorem sound_partway : Sound partway := by
  refine ⟨⟨?_, ?_, ?_, ?_, ?_, ?_, ?_, ?_, ?_⟩, ⟨?_, ?_⟩, ?_, ?_, ?_, ?_, ?_, ?_, ?_, ?_, ?_, ?_, ?_, ?_⟩ <;> decide

/-- The least sequence a session after reset accepts is 0, without checksum. -/
theorem intact_plain : intact ⟨0x04, 0, [0x01, 0x00], none⟩ := ⟨rfl, rfl, fun h => absurd h (by decide)⟩

/-- A frame with its checksum right. -/
theorem intact_checked : intact ⟨0x0A, 0, [1], some (payloadChecksum Config.crc16 0 [1])⟩ := ⟨rfl, rfl, fun _ => rfl⟩

/-- A CRC that keeps the laws of R155: the sum of the bytes. -/
def sumCrc : Config.Crc := fun s b => b.foldl (fun c x => c + x.setWidth 16) s

theorem sumCrc_start (b : Bytes) (s t : Half) : sumCrc (s + t) b = sumCrc s b + t := by
  induction b generalizing s with
  | nil => rfl
  | cons x b ih =>
    show sumCrc (s + t + x.setWidth 16) b = sumCrc (s + x.setWidth 16) b + t
    rw [← ih]; congr 1; ac_rfl

theorem sumCrc_laws : Config.CrcLaws sumCrc where
  incremental := fun s a b => by simp [sumCrc, List.foldl_append]
  detects := fun s a b x y hxy h => by
    have expand (z : Byte) : sumCrc s (a ++ z :: b) = sumCrc (sumCrc s a) b + z.setWidth 16 := by
      rw [← sumCrc_start]; simp [sumCrc, List.foldl_append]
    rw [expand, expand, BitVec.add_right_inj] at h
    exact hxy (by simpa using congrArg (BitVec.setWidth 8) h)

/-! ## Single steps (expected bytes by hand from the rules; SA, SB: spec/95_test_vectors.md 2.1, 2.2) -/

/-- The events a transaction emits from a state whose output stream is empty. -/
def events : Host.Outcome State Fault Refusal → Option (List Bytes)
  | .next s => some s.out
  | _ => none

/-- A field of the state after a transaction. -/
def after {α : Type} (field : State → α) : Host.Outcome State Fault Refusal → Option α
  | .next s => some (field s)
  | _ => none

theorem test_ready : events (transact [0x01, 0x2F, 0x00] fresh) = some [[0xC1, 0x01, 0x00, 0x00]] := rfl
theorem test_send_busy : events (transact [0x02, 0x4D, 0x00, 0x00, 0x00, 0x00, 0x00] awaiting) =
    some [[0xC1, 0x02, 0x24, 0x00]] := rfl
/-- SA: the frame of GET_VERSION at TX_SEQ 3. -/
theorem test_send_get_version : events (transact [0x02, 0x1C, 0x03, 0x00, 0x00, 0x00, 0x00] { opened with txSeq := 3 }) =
    some [[0xC0, 0x1C, 0x0A, 0x03, 0x00] ++ le16 (Config.crc16 0 [0x03, 0x00])] := rfl
theorem test_close : events (transact [0x03] writing) =
    some [[0xC1, 0x02, 0x22, 0x00], [0xC5], [0xC1, 0x03, 0x00, 0x00]] := rfl
theorem test_query : events (transact [0x04] awaiting) =
    some [[0xC6, 0x85, 0x00, 0x08, 0x00, 0x2F, 0x00, 0x17, 0x4D, 0x07, 0x01, 0x00, 0x01, 0x00, 0x03, 0x00, 0x07, 0x03, 0x00,
      0x00, 0x00, 0x00, 0x00, 0x00, 0x00, 0x00, 0x00]] := rfl
theorem test_illegal_tag : events (transact [0x7F, 0x01] opened) = some [[0xC1, 0x7F, 0x21, 0x00]] := rfl
theorem test_reserved_tag : transact [0x90] opened = .refused (.reservedTag 0x90) := rfl
/-- SB: a WIFI_LIST is delivered verbatim. -/
theorem test_rx_wifi_list :
    events (transact [0x80, 0x45, 0x04, 0x00, 0x0C, 0x06, 0xC8, 0x41, 0x42, 0x43, 0x44, 0x45, 0x04, 0xC0, 0x57, 0x69, 0x46]
      opened) =
    some [[0xC2, 0x45, 0x00, 0x04, 0x0C, 0x00, 0x06, 0xC8, 0x41, 0x42, 0x43, 0x44, 0x45, 0x04, 0xC0, 0x57, 0x69, 0x46]] := rfl
/-- A Data frame that asks for an ACK: DELIVER, then the automatic ACK of its sequence 0, numbered 0. -/
theorem test_rx_acknowledged : events (transact [0x80, 0x4D, 0x08, 0x00, 0x01, 0x77] opened) =
    some [[0xC2, 0x4D, 0x00, 0x08, 0x01, 0x00, 0x77],
      [0xC0, 0x00, 0x02, 0x00, 0x01, 0x00] ++ le16 (Config.crc16 (Config.crc16 0 [0x00, 0x01]) [0x00])] := rfl
theorem test_ack_resolves : events (transact [0x80, 0x00, 0x00, 0x00, 0x01, 0x07] awaiting) =
    some [[0xC1, 0x02, 0x00, 0x00]] := rfl
theorem test_ack_unknown : events (transact [0x80, 0x00, 0x00, 0x00, 0x01, 0x09] awaiting) = some [[0xC3, 0x01, 0x09]] := rfl
theorem test_first_fragment :
    after (fun s => (s.raTarget, s.raCount, s.raBuf)) (transact [0x80, 0x4D, 0x10, 0x00, 0x04, 0x05, 0x00, 0xAA, 0xBB] opened) =
      some (5, 2, [(0, 0xAA), (1, 0xBB)]) := rfl
/-- The final fragment: the message has the first fragment's sequence and flags (R194). -/
theorem test_last_fragment : events (transact [0x80, 0x4D, 0x00, 0x02, 0x03, 0xCC, 0xDD, 0xEE] partway) =
    some [[0xC2, 0x4D, 0x01, 0x18, 0x05, 0x00, 0xAA, 0xBB, 0xCC, 0xDD, 0xEE]] := rfl
theorem test_write_done : after (fun s => (s.txState, s.pendRemain)) (transact [0x81, 0x00] writing) =
    some (.ackWait, 3) := rfl
theorem test_write_failed : events (transact [0x81, 0x05] writing) = some [[0xC1, 0x02, 0x06, 0x00]] := rfl
theorem test_tick : after State.pendRemain (transact [0x82] awaiting) = some 2 := rfl
theorem test_last_tick : events (transact [0x82] { awaiting with pendRemain := 1 }) = some [[0xC1, 0x02, 0x05, 0x00]] := rfl
theorem test_link_down : events (transact [0x83] writing) = some [[0xC1, 0x02, 0x06, 0x00]] := rfl

/-- One notification for each fatal code that needs no checksum (R331). -/
theorem test_fatal_codes :
    events (transact [0x80, 0x4D, 0x01, 0x00, 0x00] opened) = some [[0xC4, 0x01]] ∧
    events (transact [0x80, 0x4D, 0x00, 0x01, 0x00] partway) = some [[0xC4, 0x03]] ∧
    events (transact [0x80, 0x4D, 0x10, 0x00, 0x03, 0x00, 0x00, 0xAA] opened) = some [[0xC4, 0x04]] ∧
    events (transact [0x80, 0x4D] opened) = some [[0xC4, 0x10]] ∧
    events (transact [0x80, 0x4D, 0x00, 0x00, 0x01] opened) = some [[0xC4, 0x11]] ∧
    events (transact [0x80, 0x02, 0x00, 0x00, 0x00] opened) = some [[0xC4, 0x12]] ∧
    events (transact [0x80, 0x4D, 0x10, 0x00, 0x01, 0x05] opened) = some [[0xC4, 0x13]] ∧
    events (transact [0x80, 0x1C, 0x10, 0x00, 0x00] opened) = some [[0xC4, 0x14]] ∧
    events (transact [0x80, 0x00, 0x00, 0x00, 0x00] opened) = some [[0xC4, 0x15]] :=
  ⟨rfl, rfl, rfl, rfl, rfl, rfl, rfl, rfl, rfl⟩

/-- The five names of R272 under the numbering of spec/93_implementation_defined.md G4, a byte that has none of them, and
payloads that are not one byte. -/
theorem test_auth_modes :
    [[0], [1], [2], [3], [4], [5], [], [0, 0]].map (Payload.authModeUnder Payload.commonAuthCode) =
      [some (.named .openNetwork), some (.named .wep), some (.named .wpaPsk), some (.named .wpa2Psk),
        some (.named .wpaWpa2Psk), some (.unnamed 5), none, none] := by decide

/-- From reset, with its open parameters: the RX port is enabled and a presented frame is ignored (R301, R371). -/
theorem test_first_step : events (step (State.reset.withFetchWord 8 0x41)) = some [[0xC3, 0x02, 0x00]] := rfl

/-- A transaction of another port overtakes a held notification (R243). -/
theorem test_held_rx : after State.input (step { opened with ackq := [1, 2], portBusy := true, input := [[0x80, 0x1C], [0x82]] }) =
    some [[0x80, 0x1C]] := rfl

/-! ## States and operands that meet the hypotheses of the statements, each clause at a boundary -/

/-- DecodeEncode, FrameRowIsNotification: each operand form, at the ends of its range. -/
theorem test_meets_DecodeEncode :
    (Instr.ctrlOther 10 ⟨0, 0, [], none⟩).wf = true ∧ (Instr.ctrlOther 63 ⟨0xFF, 255, [], some 0xFFFF⟩).wf = true ∧
    (Instr.dataOther 5 ⟨0, 0, [], none⟩).wf = true ∧ (Instr.dataOther 9 ⟨0, 0, [], none⟩).wf = true ∧
    (Instr.dataOther 14 ⟨0, 0, [], none⟩).wf = true ∧ (Instr.dataOther 20 ⟨0, 0, [], none⟩).wf = true ∧
    (∀ p : Bytes, p.length = 255 → (Instr.ctrlAck ⟨0, 0, p, none⟩).wf = true) ∧
    (∀ p : Bytes, p.length = 65535 → (Instr.send (.message 0xFF 0xFF 0xFFFF p)).wf = true) ∧
    (Instr.ready (.badLength [])).wf = true ∧ (Instr.ready (.badLength [0, 0, 0])).wf = true ∧
    (Instr.send (.badLength [0, 0, 0, 0, 0])).wf = true ∧ (Instr.close (.badLength [0])).wf = true ∧
    (Instr.txWrite [0x1C, 0x02, 0, 0, 0, 0]).wf = true ∧ (Instr.queryResp (List.replicate 26 0)).wf = true := by
  refine ⟨rfl, rfl, rfl, rfl, rfl, rfl, fun p h => ?_, fun p h => ?_, rfl, rfl, rfl, rfl, rfl, rfl⟩
  · simp [Instr.wf, FrameTail.wf, Config.maxFramePayload, h]
  · simp [Instr.wf, SendArgs.wf, Config.maxPayload, h]

/-- EncodeDecode: bytes of each format that decode. -/
theorem test_meets_EncodeDecode : (∃ i, decode .frame [0x03, 0x00, 0x00, 0x00] = .ok i) ∧
    (∃ i, decode .input [0xFF] = .ok i) ∧ (∃ i, decode .output [0xC5] = .ok i) := ⟨⟨_, rfl⟩, ⟨_, rfl⟩, ⟨_, rfl⟩⟩

theorem test_meets_FrameRowIsNotification :
    (Instr.reservedClass 1 63 ⟨0, 0, [], none⟩).wf = true ∧
    (Instr.reservedClass 1 63 ⟨0, 0, [], none⟩).frameParts = some ⟨3, 63, ⟨0, 0, [], none⟩⟩ ∧
    (Instr.ctrlAck ⟨0, 0, [], none⟩).frameParts = some ⟨0, 0, ⟨0, 0, [], none⟩⟩ := ⟨rfl, rfl, rfl⟩

theorem test_meets_StepRunsTransaction :
    fetch { fresh with input := [[0x82]] } = some ([0x82], fresh) ∧ decode .input [0x82] = .ok .tick ∧
    fresh.input = [] := ⟨rfl, rfl, rfl⟩

/-- ACKQ exactly full, and one short of it. -/
theorem test_meets_HeldRxPort :
    (let s : State := { opened with ackq := [1, 2], input := [[0x80], [0x80, 0x1C], [0x82]] }
     s.params.ackqDepth ≤ s.ackq.length ∧ s.input = [[0x80], [0x80, 0x1C]] ++ [0x82] :: [] ∧
       (∀ x ∈ [[0x80], [0x80, 0x1C]], x.head? = some (0x80 : Byte)) ∧ [(0x82 : Byte)].head? ≠ some 0x80) ∧
    (let s : State := { opened with ackq := [1, 2], input := [[0x80]] }
     s.params.ackqDepth ≤ s.ackq.length ∧ ∀ x ∈ s.input, x.head? = some 0x80) ∧
    (let s : State := { opened with ackq := [1], input := [[0x80]] }
     s.ackq.length < s.params.ackqDepth ∧ s.input = [0x80] :: []) := by decide

/-- EncodeLayout, FrameRoundTrip: the longest payload, every flag ENCODE allows. -/
theorem test_meets_FrameRoundTrip : ∀ p : Bytes, p.length = 255 → encodable ⟨.data, 63, 0x1E, 255, p⟩ :=
  fun _ h => ⟨Nat.le_of_eq h, (by decide : (0x1E : Byte).getLsbD 0 = false), (by decide : (0x1E : Byte).extractLsb' 5 3 = 0)⟩

theorem test_meets_ChecksumRejection :
    Config.CrcLaws sumCrc ∧ encodable ⟨.data, 19, 0x02, 1, [1, 2]⟩ ∧ encodable ⟨.data, 19, 0x00, 1, [1, 2]⟩ ∧
    (⟨.data, 19, 0x02, 1, [1, 2]⟩ : Frame).payload = [1] ++ 2 :: [] ∧ (3 : Byte) ≠ 2 :=
  ⟨sumCrc_laws, ⟨by decide, rfl, rfl⟩, ⟨by decide, rfl, rfl⟩, rfl, by decide⟩

theorem test_meets_DecodeChecks : opened.sess = .ready ∧ opened.fatal = false ∧
    decodeFrameValue Config.crc16 [0x1C, 0, 0] = .error .truncatedFrame ∧
    decodeFrameValue Config.crc16 [0x1C, 0, 0, 1] = .error .lengthMismatch ∧
    decodeFrameValue Config.crc16 [0x1F, 1, 0, 0] = .error .reservedClass ∧
    decodeFrameValue Config.crc16 [0x1C, 1, 0, 0] = .error .encrypted := ⟨rfl, rfl, rfl, rfl, rfl, rfl⟩

/-- The capacities 3 and 255; payloads of exactly the capacity and of one byte more; Scenario C's numbers. -/
theorem test_meets_SplitFrameCount :
    ((3 : Nat) ≤ 3 ∧ (3 : Nat) ≤ 255 ∧ ([1, 2, 3] : Bytes).length ≤ 3 ∧ 3 < ([1, 2, 3, 4] : Bytes).length) ∧
    (∃ p : Bytes, p.length = 500) := ⟨by decide, List.replicate 500 0, List.length_replicate⟩

theorem test_meets_FragmentsFit : 3 ≤ { opened with cap := 3 }.cap.toNat := by decide

theorem test_meets_SplitRoundTrip : (3 : Nat) ≤ 3 ∧ ([1, 2, 3, 4] : Bytes).length ≤ 65535 ∧ opened.raActive = false ∧
    bufferWf opened.raBuf = true := by decide

theorem test_meets_SeqCheckRule : ∃ u, opened.rxExp = 0 ∧ seqCheck 0 opened = .ok u := ⟨_, rfl, rfl⟩

/-- Each case of ArbiterRule, AutomaticAckFrame. -/
theorem test_meets_ArbiterRule :
    (writing.portBusy = true ∧ fresh.sess ≠ .ready ∧ dead.fatal = true) ∧
    (let s : State := { opened with ackq := [0, 1] }
     s.portBusy = false ∧ s.sess = .ready ∧ s.fatal = false ∧ s.ackq = 0 :: [1]) ∧
    (opened.ackq = [] ∧ opened.txState ≠ .issue) ∧
    (issuing.portBusy = false ∧ issuing.sess = .ready ∧ issuing.fatal = false ∧ issuing.ackq = [] ∧
      issuing.txState = .issue) := by decide

/-- The least capacity, and one less. -/
theorem test_meets_ReadyRule : fresh.sess = .connecting ∧ 3 ≤ (3 : Half).toNat ∧ (2 : Half).toNat < 3 ∧
    opened.sess ≠ .connecting := by decide

/-- Each refusal of SendRefusals: options 4, class 2; not READY; fatal; busy; an ACK that asks for an ACK; a Control
payload one byte too long. -/
theorem test_meets_SendRefusals :
    ¬((4 : Byte).toNat < 4 ∧ (0x1C : Byte).toNat % 4 < 2) ∧ ¬((3 : Byte).toNat < 4 ∧ (0x1E : Byte).toNat % 4 < 2) ∧
    ((3 : Byte).toNat < 4 ∧ (0x4D : Byte).toNat % 4 < 2) ∧ fresh.sess ≠ .ready ∧
    (dead.sess = .ready ∧ dead.fatal = true) ∧
    (awaiting.sess = .ready ∧ awaiting.fatal = false ∧ awaiting.txState ≠ .idle) ∧
    (opened.txState = .idle ∧ (0 : Byte).toNat % 4 = 0 ∧ (0 : Byte).toNat / 4 = 0 ∧ (1 : Byte).getLsbD 0 = true) ∧
    (∀ p : Bytes, p.length = 48 → min opened.cap.toNat 255 < p.length) := by
  refine ⟨by decide, by decide, by decide, by decide, by decide, by decide, by decide, fun p h => ?_⟩
  rw [h]; decide

/-- SendAccepted: a Control payload of exactly the capacity, and the longest Data payload. -/
theorem test_meets_SendAccepted :
    bufferWf opened.txBuf = true ∧ opened.sess = .ready ∧ opened.fatal = false ∧ opened.txState = .idle ∧
    (∀ p : Bytes, p.length = 47 → (0x1C : Byte).toNat % 4 = 0 →
      ¬((0x1C : Byte).toNat / 4 = 0 ∧ (3 : Byte).getLsbD 0 = true) ∧ p.length ≤ min opened.cap.toNat 255) ∧
    (∀ p : Bytes, p.length = 65535 → (0x4D : Byte).toNat % 4 = 0 →
      ¬((0x4D : Byte).toNat / 4 = 0 ∧ (3 : Byte).getLsbD 0 = true) ∧ p.length ≤ min opened.cap.toNat 255) := by
  refine ⟨rfl, rfl, rfl, rfl, fun p h _ => ⟨by decide, ?_⟩, fun p _ h => absurd h (by decide)⟩
  rw [h]; decide

/-- CloseRule, LinkDownRule, NotListeningIgnored. -/
theorem test_meets_CloseRule : ended.sess = .closed ∧ writing.sess ≠ .closed ∧ fresh.sess ≠ .closed ∧ fresh.sess ≠ .ready ∧
    dead.fatal = true := by decide

theorem test_meets_QueryRule : ({ opened with ackq := [1, 2] } : State).ackq.length < 256 := by decide

/-- IllegalCommandsAnswered: a case of every form, the unassigned tags at both ends. -/
theorem test_meets_IllegalCommandsAnswered :
    5 ≤ (0x05 : Byte).toNat ∧ (0x7F : Byte).toNat ≤ 0x7F ∧ ([0] : Bytes).length ≠ 2 ∧
    ([0, 0, 0, 0, 1, 0] : Bytes).length ≠ 6 + ((1 : Byte).toNat + 256 * (0 : Byte).toNat) ∧ ([0] : Bytes) ≠ [] := by decide

theorem test_meets_IllFormedEventsRefused : 0x84 ≤ (0x84 : Byte).toNat ∧ 0x84 ≤ (0xFF : Byte).toNat ∧ ([] : Bytes).length ≠ 1 ∧
    ([0, 0] : Bytes).length ≠ 1 ∧ ([0] : Bytes) ≠ [] := by decide

/-- Each case of WriteDoneRule. -/
theorem test_meets_WriteDoneRule :
    fresh.portBusy = false ∧
    (let s : State := { opened with portBusy := true, portOwner := .autoAck }
     s.portBusy = true ∧ s.portOwner = .autoAck) ∧
    (let s : State := { dead with portBusy := true }
     s.portBusy = true ∧ s.portOwner = .send ∧ s.txState ≠ .writeWait) ∧
    (writing.portBusy = true ∧ writing.portOwner = .send ∧ writing.txState = .writeWait ∧ (1 : Byte) ≠ 0 ∧
      writing.txAckReq = true ∧ writing.pendAcked = false) ∧
    (let s : State := { writing with pendValid := false, pendAcked := true }
     s.portBusy = true ∧ s.portOwner = .send ∧ s.txState = .writeWait ∧ ¬(s.txAckReq = true ∧ s.pendAcked = false)) := by
  decide

/-- TickRule: nothing armed, two ticks left, one tick left. -/
theorem test_meets_TickRule :
    ¬(writing.pendValid = true ∧ writing.txState = .ackWait) ∧
    (let s : State := { awaiting with pendRemain := 2 }
     s.pendValid = true ∧ s.txState = .ackWait ∧ 2 ≤ s.pendRemain.toNat) ∧
    (let s : State := { awaiting with pendRemain := 1 }
     s.pendValid = true ∧ s.txState = .ackWait ∧ s.pendRemain.toNat = 1) := by decide

theorem test_meets_TimeoutLaw : Sound writing ∧ writing.txState = .writeWait ∧ writing.txAckReq = true ∧
    writing.pendAcked = false := ⟨sound_writing, rfl, rfl, rfl⟩

/-- AckCorrelation: an ACK of the frame's sequence 0, and of another. -/
theorem test_meets_AckCorrelation :
    Sound opened ∧ opened.sess = .ready ∧ opened.fatal = false ∧ opened.txState = .idle ∧ opened.raActive = false ∧
    opened.portBusy = false ∧ ([9] : Bytes).length ≤ min opened.cap.toNat 255 ∧ (1 : Byte).toNat < 4 ∧
    (1 : Byte).getLsbD 0 = true ∧ (0x4D : Byte).toNat % 4 < 2 ∧ (0x4D : Byte) ≠ 0 ∧
    intact ⟨0x0A, 0, [1], some (payloadChecksum Config.crc16 0 [1])⟩ ∧ intact ⟨0, 0, [0], none⟩ ∧
    fragFlag 0x0A = false ∧ fragFlag 0 = false ∧ opened.rxExp ≤ 0 ∧ opened.txSeq = 0 :=
  ⟨sound_opened, rfl, rfl, rfl, rfl, rfl, by decide, by decide, rfl, by decide, by decide, intact_checked,
    ⟨rfl, rfl, fun h => absurd h (by decide)⟩, rfl, rfl, by decide, rfl⟩

/-- WholeSend: a Data payload of several frames, a Control payload of exactly the capacity. -/
theorem test_meets_WholeSend :
    Sound opened ∧ opened.sess = .ready ∧ opened.fatal = false ∧ opened.txState = .idle ∧ opened.portBusy = false ∧
    (2 : Byte).toNat < 4 ∧ (2 : Byte).getLsbD 0 = false ∧ (0x4D : Byte).toNat % 4 < 2 ∧
    (∀ p : Bytes, p.length = 500 → p.length ≤ 65535 ∧ ((0x4D : Byte).toNat % 4 = 0 → p.length ≤ min opened.cap.toNat 255)) ∧
    (∀ p : Bytes, p.length = 47 → p.length ≤ min opened.cap.toNat 255) := by
  refine ⟨sound_opened, rfl, rfl, rfl, rfl, by decide, rfl, by decide, fun p h => ⟨by omega, fun e => absurd e (by decide)⟩,
    fun p h => ?_⟩
  rw [h]; decide

/-- ControlMessagesDelivered, DataMessagesDelivered, PlainNotificationDelivered, AckResolves' common hypotheses: the least
sequence accepted, with and without a checksum. -/
theorem test_meets_DataMessagesDelivered :
    opened.sess = .ready ∧ opened.fatal = false ∧ opened.raActive = false ∧ intact ⟨0x04, 0, [0x01, 0x00], none⟩ ∧
    intact ⟨0x0A, 0, [1], some (payloadChecksum Config.crc16 0 [1])⟩ ∧ fragFlag 0x04 = false ∧ fragFlag 0x0A = false ∧
    opened.rxExp ≤ 0 ∧ openedOther.rxExp ≤ 0 ∧ (10 : Nat) ≤ (10 : BitVec 6).toNat :=
  ⟨rfl, rfl, rfl, intact_plain, intact_checked, rfl, rfl, by decide, by decide, by decide⟩

theorem test_meets_PlainNotificationDelivered :
    (0x4D : Byte) ≠ 0 ∧ (0x4D : Byte).toNat % 4 < 2 ∧ (0x08 : Byte).getLsbD 0 = false ∧ (0x08 : Byte).getLsbD 1 = false ∧
    (0x08 : Byte).getLsbD 4 = false ∧ (∀ p : Bytes, p.length = 255 → p.length ≤ 255) ∧ opened.rxExp ≤ 0 :=
  ⟨by decide, by decide, rfl, rfl, rfl, fun _ h => Nat.le_of_eq h, by decide⟩

/-- Each case of AckResolves: an empty payload, the awaited ACK, an early ACK, an unknown ACK. -/
theorem test_meets_AckResolves :
    intact ⟨0, 0, [], none⟩ ∧ intact ⟨0, 0, [7], none⟩ ∧
    (awaiting.sess = .ready ∧ awaiting.fatal = false ∧ awaiting.raActive = false ∧ awaiting.rxExp ≤ 0 ∧
      awaiting.pendValid = true ∧ awaiting.pendSeq = 7 ∧ awaiting.txState = .ackWait) ∧
    (writing.raActive = false ∧ writing.pendValid = true ∧ writing.pendSeq = 7 ∧ writing.txState = .writeWait) ∧
    ¬(awaiting.pendValid = true ∧ awaiting.pendSeq = 8) ∧ ¬(opened.pendValid = true ∧ opened.pendSeq = 0) :=
  ⟨⟨rfl, rfl, fun h => absurd h (by decide)⟩, ⟨rfl, rfl, fun h => absurd h (by decide)⟩, by decide, by decide, by decide,
    by decide⟩

theorem test_meets_ReservedClassFatal : opened.sess = .ready ∧ opened.fatal = false ∧
    (⟨0x01, 0, [], none⟩ : FrameTail).wf = true := ⟨rfl, rfl, rfl⟩

theorem test_meets_ControlFragmentFatal :
    (Instr.ctrlGetVersion ⟨0x10, 0, [], none⟩).frameParts = some ⟨0, 7, ⟨0x10, 0, [], none⟩⟩ ∧ opened.sess = .ready ∧
    opened.fatal = false ∧ intact ⟨0x10, 0, [], none⟩ ∧ fragFlag 0x10 = true ∧ opened.rxExp ≤ 0 :=
  ⟨rfl, rfl, rfl, ⟨rfl, rfl, fun h => absurd h (by decide)⟩, rfl, by decide⟩

/-- A first fragment and a continuation, of no byte and of one. -/
theorem test_meets_FragmentTooShort :
    (Instr.dataVersion ⟨0x10, 2, [5], none⟩).frameParts = some ⟨1, 16, ⟨0x10, 2, [5], none⟩⟩ ∧
    intact ⟨0x10, 2, [5], none⟩ ∧ intact ⟨0x10, 2, [], none⟩ ∧ fragFlag 0x10 = true ∧ ([5] : Bytes).length < 2 ∧
    opened.rxExp ≤ 2 ∧ opened.raActive = false ∧ partway.rxExp ≤ 2 ∧ partway.raActive = true :=
  ⟨rfl, ⟨rfl, rfl, fun h => absurd h (by decide)⟩, ⟨rfl, rfl, fun h => absurd h (by decide)⟩, rfl, by decide, by decide, rfl,
    by decide, rfl⟩

/-- Data below the target 2, at it and beyond it. -/
theorem test_meets_FirstFragment :
    (∀ t, (Instr.dataCustomData t).frameParts = some ⟨1, 19, t⟩) ∧
    intact ⟨0x18, 0, [2, 0, 9], none⟩ ∧ intact ⟨0x18, 0, [2, 0, 9, 9], none⟩ ∧ intact ⟨0x18, 0, [2, 0, 9, 9, 9], none⟩ ∧
    fragFlag 0x18 = true ∧ opened.sess = .ready ∧ opened.fatal = false ∧ opened.raActive = false ∧ opened.rxExp ≤ 0 ∧
    bufferWf opened.raBuf = true ∧ (2 : Byte).toNat + 256 * (0 : Byte).toNat = 2 :=
  ⟨fun _ => rfl, ⟨rfl, rfl, fun h => absurd h (by decide)⟩, ⟨rfl, rfl, fun h => absurd h (by decide)⟩,
    ⟨rfl, rfl, fun h => absurd h (by decide)⟩, rfl, rfl, rfl, rfl, by decide, rfl, rfl⟩

/-- Two of five bytes have come: two more, three more, four more; a Control frame too. -/
theorem test_meets_ReassemblyContinues :
    (∀ t, (Instr.dataError t).frameParts = some ⟨FrameClass.data.code, 18, t⟩) ∧
    (∀ t, (Instr.ctrlAck t).frameParts = some ⟨FrameClass.control.code, 0, t⟩) ∧
    intact ⟨0x10, 2, [1, 0, 9, 9], none⟩ ∧ intact ⟨0, 2, [9, 9, 9], none⟩ ∧ intact ⟨0, 2, [9, 9, 9, 9], none⟩ ∧
    partway.sess = .ready ∧ partway.fatal = false ∧ partway.raActive = true ∧ partway.raClass = .data ∧
    ¬(FrameClass.control = .control ∧ fragFlag 0 = true) ∧ partway.rxExp ≤ 2 ∧ bufferWf partway.raBuf = true ∧
    partway.raTarget.toNat = 5 ∧ partway.raCount.toNat = 2 :=
  ⟨fun _ => rfl, fun _ => rfl, ⟨rfl, rfl, fun h => absurd h (by decide)⟩, ⟨rfl, rfl, fun h => absurd h (by decide)⟩,
    ⟨rfl, rfl, fun h => absurd h (by decide)⟩, rfl, rfl, rfl, rfl, by decide, by decide, rfl, rfl, rfl⟩

theorem test_meets_SequenceViolation :
    (Instr.dataError ⟨0, 1, [], none⟩).frameParts = some ⟨FrameClass.data.code, 18, ⟨0, 1, [], none⟩⟩ ∧
    intact ⟨0, 1, [], none⟩ ∧ partway.sess = .ready ∧ partway.fatal = false ∧ (1 : Byte) < partway.rxExp :=
  ⟨rfl, ⟨rfl, rfl, fun h => absurd h (by decide)⟩, rfl, rfl, by decide⟩

theorem test_meets_FatalPrecision :
    ∃ t, (opened.raActive = true → opened.raClass = .data) ∧ opened.fatal = false ∧
      exec (.rxNotify [0x4D, 0x10, 0x00, 0x01, 0x05]) opened = .next t ∧ t.fatal = true := ⟨_, by decide, rfl, rfl, rfl⟩

/-- FatalSticky, OneWritePerStep, EmittedEventsDecode: a step in a fatal state. -/
theorem test_meets_FatalSticky : ∃ t, { dead with input := [[0x80]] }.fatal = true ∧
    step { dead with input := [[0x80]] } = .next t := ⟨_, rfl, rfl⟩

theorem test_meets_InvariantAtReset : LegalParams params := ⟨by decide, by decide⟩

/-- InvariantKept, EmittedFramesLegal, SendEndsOnce, ResetState: the step that ends a SEND. -/
theorem test_meets_SendEndsOnce :
    ∃ t, Sound answered ∧ answered.txState ≠ .idle ∧ step answered = .next t ∧ t.txState = .idle :=
  ⟨_, sound_answered, by decide, rfl, rfl⟩

/-- An open session with a SEND at the CMD port. -/
def commanded : State := { opened with input := [[0x02, 0x4D, 0x00, 0x00, 0x00, 0x00, 0x00]] }

/-- InvariantKept, EmittedFramesLegal: a step from a sound state that issues a frame. -/
theorem test_meets_EmittedFramesLegal : ∃ t, Sound commanded ∧ step commanded = .next t ∧
    t.out = [[0xC0, 0x4D, 0x00, 0x00, 0x00]] := by
  refine ⟨_, ?_, rfl, rfl⟩
  refine ⟨⟨?_, ?_, ?_, ?_, ?_, ?_, ?_, ?_, ?_⟩, ⟨?_, ?_⟩, ?_, ?_, ?_, ?_, ?_, ?_, ?_, ?_, ?_, ?_, ?_, ?_⟩ <;> decide

/-- OneWritePerStep: a step that issues a frame; SessionTransitions: a READY. -/
theorem test_meets_OneWritePerStep :
    (∃ t, step { opened with input := [[0x02, 0x4D, 0x00, 0x00, 0x00, 0x00, 0x00]] } = .next t ∧ t.portBusy = true) ∧
    (∃ t, step { fresh with input := [[0x01, 0x03, 0x00]] } = .next t ∧ t.sess = .ready) := ⟨⟨_, rfl, rfl⟩, ⟨_, rfl, rfl⟩⟩

/-- A state with other bytes above the SEND and above RA_COUNT. -/
def redrawn (s : State) : State := { s with txBuf := [(0, 0xAA), (1, 0x55)], raBuf := [(0, 0x66)] }

/-- BufferDrawsUnobservable: a step that goes on, and one that is refused. -/
theorem test_meets_BufferDrawsUnobservable :
    (let s : State := { writing with input := [[0x81, 0x00]] }
     SameButUnread s (redrawn s) ∧ ∃ t, step s = .next t) ∧
    (let s : State := { writing with input := [[0x90]] }
     SameButUnread s (redrawn s) ∧ step s = .refused (.reservedTag 0x90)) :=
  ⟨⟨⟨rfl, by decide, by decide, by decide⟩, ⟨_, rfl⟩⟩, ⟨⟨rfl, by decide, by decide, by decide⟩, rfl⟩⟩

theorem test_meets_WifiListParses : ∀ ssid : Bytes, ssid.length = 254 →
    ∀ e ∈ [((0xC8 : Byte), ssid), (0x00, [])], e.2.length ≤ 254 := by
  intro ssid h e he
  simp only [List.mem_cons, List.not_mem_nil, or_false] at he
  rcases he with rfl | rfl
  · exact Nat.le_of_eq h
  · decide

end Sys2Proof.Tests
end

section
/-! PROOFS. What a transaction's own rule reports before the arbiter runs, and what a whole step does: its transaction
and then the arbiter (R16), at most one frame and at most one delivery (R245, R276); the output rows (R15). -/

namespace Sys2Proof.Machine

/-! ## What a rule reports -/

/-- A rule leads from `s` to `t` without the arbiter: it numbers no frame, leaves PORT_BUSY as it is, and appends events
none of which is a TX_WRITE and at most `n` of which are DELIVERs. -/
structure Reports (n : Nat) (s t : State) : Prop where
  txSeq_kept : t.txSeq = s.txSeq
  portBusy_kept : t.portBusy = s.portBusy
  events : ∃ evs, t.out = s.out ++ evs ∧ evs.countP isTxWrite = 0 ∧ evs.countP isDeliver ≤ n

/-- A change of registers that appends no event. -/
theorem Reports.of_silent {s t : State} (hq : t.txSeq = s.txSeq) (hp : t.portBusy = s.portBusy) (ho : t.out = s.out) :
    Reports 0 s t :=
  ⟨hq, hp, [], by simp [ho], rfl, Nat.le_refl 0⟩

theorem Reports.refl (s : State) : Reports 0 s s := .of_silent rfl rfl rfl

theorem Reports.mono {m n : Nat} {s t : State} (h : Reports m s t) (hmn : m ≤ n) : Reports n s t := by
  obtain ⟨hq, hp, evs, ho, hw, hd⟩ := h
  exact ⟨hq, hp, evs, ho, hw, hd.trans hmn⟩

theorem Reports.trans {m n : Nat} {s t u : State} (h : Reports m s t) (k : Reports n t u) : Reports (m + n) s u := by
  obtain ⟨hq, hp, evs, ho, hw, hd⟩ := h
  obtain ⟨kq, kp, fvs, ko, kw, kd⟩ := k
  refine ⟨kq.trans hq, kp.trans hp, evs ++ fvs, by rw [ko, ho, List.append_assoc], ?_, ?_⟩
  · rw [List.countP_append, hw, kw]
  · rw [List.countP_append]
    exact Nat.add_le_add hd kd

/-- A rule that begins with a change of registers that appends no event. -/
theorem Reports.after {n : Nat} {s t u : State} (h : Reports n t u) (hq : t.txSeq = s.txSeq)
    (hp : t.portBusy = s.portBusy) (ho : t.out = s.out) : Reports n s u := by
  obtain ⟨kq, kp, evs, ko, kw, kd⟩ := h
  exact ⟨kq.trans hq, kp.trans hp, evs, by rw [ko, ho], kw, kd⟩

/-- One event that is neither a frame nor a delivery. -/
theorem Reports.emit {e : Bytes} (hw : isTxWrite e = false) (hd : isDeliver e = false) (s : State) :
    Reports 0 s (emit e s) :=
  ⟨rfl, rfl, [e], rfl, by simp [hw], by simp [hd]⟩

/-- `emit CMD_DONE` (R132). -/
theorem Reports.cmdDone (op st d : Byte) (s : State) : Reports 0 s (Machine.emit [0xC1, op, st, d] s) :=
  .emit rfl rfl s

/-- `emit LOG` (R134). -/
theorem Reports.log (code arg : Byte) (s : State) : Reports 0 s (Machine.emit [0xC3, code, arg] s) :=
  .emit rfl rfl s

/-! ## The shared operations -/

/-- `emit DELIVER(M)` is the one delivery a rule can make (R276). -/
theorem deliverMessage_reports (m : Message) (s : State) : Reports 1 s (deliverMessage m s) :=
  ⟨rfl, rfl, [_], rfl, by simp [isTxWrite], List.countP_le_length⟩

theorem fatalEntry_reports (code : FatalCode) (s : State) : Reports 0 s (fatalEntry code s) := by
  refine ⟨by rw [fatalEntry_eq], fatalEntry_portBusy code s, _, fatalEntry_out code s, ?_, ?_⟩ <;>
    by_cases h : s.txState = .idle <;> simp [fatalEvents, h, isTxWrite, isDeliver]

theorem failSend_reports (st : Status) (s : State) : Reports 0 s (failSend st s) := by
  unfold failSend
  split
  · exact .refl s
  · exact .cmdDone _ _ _ s

theorem releaseLink_reports (s : State) : Reports 0 s (releaseLink s) := by
  rw [releaseLink_eq]
  refine ⟨rfl, rfl, _, rfl, ?_, ?_⟩ <;> cases s.linkOpen <;> simp [isTxWrite, isDeliver]

theorem advance_reports (s : State) : Reports 0 s (advance s) := by
  unfold advance
  split
  · exact Reports.after (.cmdDone _ _ _ _) rfl rfl rfl
  · exact .of_silent rfl rfl rfl

theorem ackResolve_reports {p : Bytes} {s t : State} (h : ackResolve p s = .ok t) : Reports 0 s t := by
  rcases ackResolve_cases h with ⟨_, h⟩ | ⟨_, _, _, _, _, _, h⟩ | ⟨_, _, _, _, _, _, h⟩ | ⟨_, _, _, _, h⟩ <;> cases h
  case inr.inl => exact Reports.after (advance_reports _) rfl rfl rfl
  case inr.inr.inl => exact .of_silent rfl rfl rfl
  case inr.inr.inr => exact .log _ _ _

theorem timerStep_reports (s : State) : Reports 0 s (timerStep s) := by
  rcases timerStep_cases s with ⟨_, h⟩ | ⟨_, _, _, h⟩ | ⟨_, _, _, h⟩ <;> rw [h]
  · exact .refl s
  · exact .of_silent rfl rfl rfl
  · exact Reports.after (t := { s with pendRemain := 0, pendValid := false, txState := .idle })
      (.cmdDone _ _ _ _) rfl rfl rfl

theorem oweFrameAck_reports (f : Frame) (s : State) : Reports 0 s (oweFrameAck f s) := by
  rw [oweFrameAck_eq]
  exact .of_silent rfl rfl rfl

theorem oweMessageAck_reports (m : Message) (s : State) : Reports 0 s (oweMessageAck m s) := by
  rw [oweMessageAck_eq]
  exact .of_silent rfl rfl rfl

/-! ## REASSEMBLE writes the RA registers and RA_BUF only -/

/-- `t` is `s` with other RA registers and another RA_BUF (R46-R50). -/
def OnlyReassembly (s t : State) : Prop :=
  t = { s with
    raActive := t.raActive
    raTarget := t.raTarget
    raCount := t.raCount
    raClass := t.raClass
    raSubtype := t.raSubtype
    raSeq := t.raSeq
    raFlags := t.raFlags
    raBuf := t.raBuf }

theorem OnlyReassembly.trans {s t u : State} (h : OnlyReassembly s t) (k : OnlyReassembly t u) : OnlyReassembly s u := by
  unfold OnlyReassembly at *
  rw [h] at k
  exact k

theorem OnlyReassembly.reports {s t : State} (h : OnlyReassembly s t) : Reports 0 s t := by
  rw [h]
  exact .of_silent rfl rfl rfl

/-- The state REASSEMBLE leaves. -/
def Reassembled.state? : Reassembled → Option State
  | .delivered _ s => some s
  | .awaiting s => some s
  | .raised _ s => some s
  | .outOfRange => none

theorem appendData_only {data : Bytes} {s t : State} (h : (appendData data s).state? = some t) :
    OnlyReassembly s t := by
  rcases appendData_cases data s with ⟨_, hr⟩ | ⟨_, hr⟩ | ⟨_, hr⟩ <;> rw [hr] at h <;> cases h <;> rfl

theorem reassemble_only {f : Frame} {s t : State} (h : (reassemble f s).state? = some t) : OnlyReassembly s t := by
  rcases reassemble_cases f s with ⟨_, _, hr⟩ | ⟨_, _, hr⟩ | ⟨data, _, hr⟩ | ⟨lo, hi, data, _, _, _, hr⟩ <;> rw [hr] at h
  · cases h; rfl
  · cases h; rfl
  · exact appendData_only h
  · exact OnlyReassembly.trans (t := startReassembly f (rd16 lo hi) s) rfl (appendData_only h)

/-! ## The inbound pipeline -/

theorem classify_reports {m : Message} {s t : State} (h : classify m s = .ok t) : Reports 1 s t := by
  unfold classify at h
  split at h
  · exact (ackResolve_reports h).mono (Nat.zero_le 1)
  · cases h
    exact deliverMessage_reports m s

theorem finishMessage_reports (m : Message) (s : State) : Reports 1 s (finishMessage m s) := by
  unfold finishMessage
  split
  · exact (fatalEntry_reports _ s).mono (Nat.zero_le 1)
  · rename_i t h
    exact (classify_reports h).trans (oweMessageAck_reports m t)

theorem acceptFrame_reports {f : Frame} {s t : State} (h : acceptFrame f s = .next t) : Reports 1 s t := by
  rcases acceptFrame_cases f s with ⟨_, ha⟩ | ⟨_, u, hu, ⟨_, _, ha⟩ | ⟨_, hr⟩⟩
  · cases ha.symm.trans h
    exact (fatalEntry_reports _ s).mono (Nat.zero_le 1)
  all_goals have su : Reports 0 s u := by subst hu; exact .of_silent rfl rfl rfl
  · cases ha.symm.trans h
    exact (su.trans (fatalEntry_reports _ u)).mono (Nat.zero_le 1)
  · have left {v : State} (hv : (reassemble f u).state? = some v) : Reports 0 s v :=
      su.trans (reassemble_only hv).reports
    rcases hr with ⟨code, v, hv, ha⟩ | ⟨v, hv, ha⟩ | ⟨m, v, hv, ha⟩ <;> cases ha.symm.trans h
    · exact ((left (by rw [hv]; rfl)).trans (fatalEntry_reports code v)).mono (Nat.zero_le 1)
    · exact ((left (by rw [hv]; rfl)).trans (oweFrameAck_reports f v)).mono (Nat.zero_le 1)
    · exact ((left (by rw [hv]; rfl)).trans (oweFrameAck_reports f v)).trans (finishMessage_reports m _)

theorem notifyBytes_reports {b : Bytes} {s t : State} (h : notifyBytes b s = .next t) : Reports 1 s t := by
  unfold notifyBytes afterDecode at h
  split at h
  · split at h
    · cases h
      exact (fatalEntry_reports _ s).mono (Nat.zero_le 1)
    · exact acceptFrame_reports h
  · cases h
    exact (Reports.log _ _ s).mono (Nat.zero_le 1)

/-! ## The commands and the other events -/

theorem execReady_reports {a : ReadyArgs} {s t : State} (h : execReady a s = .next t) : Reports 0 s t := by
  unfold execReady at h
  split at h
  · cases h
    exact .cmdDone _ _ _ s
  · split at h <;> cases h
    · exact .cmdDone _ _ _ s
    · exact Reports.after (.cmdDone _ _ _ _) rfl rfl rfl

/-- All that SEND can do (R294): a CMD_DONE that refuses it, or the registers and TX_BUF of an accepted one. -/
theorem execSend_cases {a : SendArgs} {s t : State} (h : execSend a s = .next t) :
    (∃ st d, t = emit [0xC1, 0x02, st, d] s) ∨
    ∃ b0 opts timeout payload cls buf, a = .message b0 opts timeout payload ∧
      frameClass (classField b0) = some cls ∧ memWrite s.txBuf 0 payload = some buf ∧
      t = { latchSend cls b0 opts timeout payload.length s with txBuf := buf } := by
  cases a with
  | badLength rest => cases h; exact .inl ⟨_, _, rfl⟩
  | message b0 opts timeout payload =>
    unfold execSend at h
    dsimp only at h
    iterate 4
      split at h
      · cases h; exact .inl ⟨_, _, rfl⟩
    split at h
    · cases h; exact .inl ⟨_, _, rfl⟩
    rename_i cls hcls
    iterate 2
      split at h
      · cases h; exact .inl ⟨_, _, rfl⟩
    split at h
    · cases h
    rename_i buf hbuf
    cases h
    exact .inr ⟨b0, opts, timeout, payload, cls, buf, rfl, hcls, hbuf, rfl⟩

theorem execSend_reports {a : SendArgs} {s t : State} (h : execSend a s = .next t) : Reports 0 s t := by
  rcases execSend_cases h with ⟨st, d, rfl⟩ | ⟨_, _, _, _, _, _, _, _, _, rfl⟩
  · exact .cmdDone _ _ _ s
  · exact .of_silent rfl rfl rfl

theorem execQuery_reports {a : NoArgs} {s t : State} (h : execQuery a s = .next t) : Reports 0 s t := by
  cases a <;> cases h
  · exact .emit rfl rfl s
  · exact .cmdDone _ _ _ s

/-- A TEARDOWN that ends in CLOSED: the port is free, and nothing is heard or sent from there (R296, R297, R310). -/
theorem teardown_reports (st : Status) (s : State) (linkOpen : Bool) :
    Reports 0 { s with portBusy := false }
      { teardown (failSend st s) with sess := .closed, linkOpen := linkOpen } := by
  obtain ⟨hq, _, evs, ho, hw, hd⟩ := failSend_reports st s
  exact ⟨hq, rfl, evs, ho, hw, hd⟩

/-- CLOSE keeps the port busy only where it does nothing else, and otherwise ends in CLOSED (R297). -/
theorem execClose_reports {a : NoArgs} {s t : State} (h : execClose a s = .next t) :
    Reports 0 s t ∨ (Reports 0 { s with portBusy := false } t ∧ listening t = false) := by
  cases a with
  | badLength rest => cases h; exact .inl (.cmdDone _ _ _ s)
  | exact =>
    unfold execClose at h
    dsimp only at h
    split at h <;> cases h
    · exact .inl (.cmdDone _ _ _ s)
    · refine .inr ⟨((teardown_reports .closed s _).trans (releaseLink_reports _)).trans (.cmdDone _ _ _ _), ?_⟩
      simp [listening, releaseLink_eq]

/-- LINK_DOWN does nothing in CLOSED and otherwise ends there (R310). -/
theorem execLinkDown_reports {s t : State} (h : execLinkDown s = .next t) :
    Reports 0 s t ∨ (Reports 0 { s with portBusy := false } t ∧ listening t = false) := by
  unfold execLinkDown at h
  split at h <;> cases h
  · exact .inl (.refl s)
  · exact .inr ⟨teardown_reports .transportError s false, rfl⟩

theorem sendWriteDone_reports (st : Byte) (s : State) : Reports 0 s (sendWriteDone st s) := by
  unfold sendWriteDone
  split
  · exact .refl s
  split
  · exact Reports.after (.cmdDone _ _ _ _) rfl rfl rfl
  split
  · exact .of_silent rfl rfl rfl
  · exact Reports.after (advance_reports _) rfl rfl rfl

/-- WRITE_DONE frees the port that is busy (R305). -/
theorem execWriteDone_reports {st : Byte} {s t : State} (h : execWriteDone st s = .next t) :
    Reports 0 { s with portBusy := false } t := by
  unfold execWriteDone at h
  split at h
  · split at h <;> cases h
    · unfold ackWriteDone
      split
      · exact .log _ _ _
      · exact .refl _
    · exact sendWriteDone_reports st _
  · rename_i hb
    cases h
    exact Reports.after (.log _ _ s) rfl (Bool.eq_false_iff.mpr hb) rfl

/-! ## Every input transaction -/

/-- What every input transaction's own rule reports: no frame, at most one delivery. It frees the write port only as a
WRITE_DONE or where the block stops listening (R90, R305, R245). -/
theorem exec_reports {b : Bytes} {i : Instr} {s t : State} (hd : decode .input b = .ok i) (h : exec i s = .next t) :
    Reports 1 s t ∨
    (Reports 1 { s with portBusy := false } t ∧ (listening t = false ∨ ∃ st, b = [0x81, st])) := by
  have quiet {u : State} (r : Reports 0 u t) : Reports 1 u t := r.mono (Nat.zero_le 1)
  have closing (r : Reports 0 s t ∨ (Reports 0 { s with portBusy := false } t ∧ listening t = false)) :
      Reports 1 s t ∨
      (Reports 1 { s with portBusy := false } t ∧ (listening t = false ∨ ∃ st, b = [0x81, st])) :=
    r.imp quiet (fun r => ⟨quiet r.1, .inl r.2⟩)
  have illegal {tag : Byte} (e : exec i s = .next (illegalCommand tag s)) : Reports 1 s t := by
    cases e.symm.trans h
    exact quiet (.cmdDone _ _ _ s)
  obtain ⟨tag, rest, rfl, hi⟩ := decodeInput_cases hd
  rcases hi with ⟨_, rfl⟩ | ⟨_, rfl⟩ | ⟨_, rfl⟩ | ⟨_, rfl⟩ | ⟨_, rfl⟩ | ⟨_, rfl⟩ | ⟨_, rfl⟩ | ⟨_, rfl⟩ | ⟨_, rfl⟩ |
    ⟨_, rfl⟩ | ⟨_, rfl⟩ | ⟨_, rfl⟩ | ⟨rfl, st, rfl, rfl⟩ | ⟨_, _, rfl⟩ | ⟨_, _, rfl⟩ | ⟨_, rfl⟩ | ⟨_, rfl⟩ | ⟨_, rfl⟩ |
    ⟨_, rfl⟩ | ⟨_, rfl⟩
  · exact .inl (illegal rfl)
  · exact .inl (quiet (execReady_reports h))
  · exact .inl (quiet (execSend_reports h))
  · exact closing (execClose_reports h)
  · exact .inl (quiet (execQuery_reports h))
  iterate 6 exact .inl (illegal rfl)
  · exact .inl (notifyBytes_reports h)
  · exact .inr ⟨quiet (execWriteDone_reports h), .inr ⟨st, rfl⟩⟩
  · cases h
    exact .inl (quiet (timerStep_reports s))
  · exact closing (execLinkDown_reports h)
  all_goals cases h

/-! ## The arbiter and the step -/

/-- The arbiter does nothing, or it finds the port free in a listening block and issues one frame, numbered by TX_SEQ
(R210, R245). -/
theorem arbiter_issues {s t : State} (h : arbiter s = .next t) :
    t = s ∨
    (s.portBusy = false ∧ listening s = true ∧ t.txSeq = s.txSeq + 1 ∧ t.portBusy = true ∧
      ∃ f, f.seq = s.txSeq ∧ t.out = s.out ++ [0xC0 :: encodeFrame Config.crc16 f]) := by
  rcases arbiter_cases s with ⟨_, ha⟩ | ⟨hb, hl, a, rest, _, ha⟩ | ⟨hb, hl, _, _, ha⟩ <;> cases ha.symm.trans h
  · exact .inl rfl
  · exact .inr ⟨hb, hl, rfl, rfl, ackFrame s.txSeq a, rfl, rfl⟩
  · exact .inr ⟨hb, hl, rfl, rfl, sendFrame s s.txSeq (currentFragment s), rfl, rfl⟩

/-- A step that takes a transaction runs its meaning and then the arbiter (R16). -/
theorem step_fetched {s u : State} {t : Bytes} {i : Instr} (hf : fetch s = some (t, u)) (hd : decode .input t = .ok i) :
    step s = thenArbiter (exec i u) := by
  simp only [step, hf, transact, hd]

/-- With no transaction waiting there is none to take (R371). -/
theorem fetch_none_of_empty {s : State} (h : s.input = []) : fetch s = none := by
  simp [fetch, h, takeEnabled]

/-! ## The statements -/

/-- Settles O51: the transaction's own rule issues no frame (`exec_reports`), so the frame of a step is the arbiter's
(`arbiter_issues`), the last event; the port it finds free was free before, or a WRITE_DONE freed it. -/
theorem oneWritePerStep : Obligations.OneWritePerStep := by
  intro s t h
  rcases step_cases h with ⟨_, rfl⟩ | ⟨b, u, i, v, hf, hd, he, ha⟩
  · exact ⟨[], by simp, Nat.zero_le 1, .inl ⟨rfl, rfl⟩⟩
  obtain ⟨waiting, rfl⟩ := fetch_cases hf
  have rule := exec_reports hd he
  obtain ⟨evs, ho, hw, hn, hq⟩ : ∃ evs, v.out = s.out ++ evs ∧ evs.countP isTxWrite = 0 ∧ evs.countP isDeliver ≤ 1 ∧
      v.txSeq = s.txSeq := by
    rcases rule with ⟨hq, _, evs, ho, hw, hn⟩ | ⟨⟨hq, _, evs, ho, hw, hn⟩, _⟩ <;> exact ⟨evs, ho, hw, hn, hq⟩
  rcases arbiter_issues ha with rfl | ⟨hb, hl, htq, htb, f, hfq, hto⟩
  · exact ⟨evs, ho, hn, .inl ⟨hw, hq⟩⟩
  · have port : s.portBusy = false ∨ ∃ st u, fetch s = some ([0x81, st], u) := by
      rcases rule with r | ⟨_, hc | ⟨st, rfl⟩⟩
      · exact .inl (r.portBusy_kept.symm.trans hb)
      · rw [hl] at hc; cases hc
      · exact .inr ⟨st, _, hf⟩
    refine ⟨evs ++ [0xC0 :: encodeFrame Config.crc16 f], by rw [hto, ho, List.append_assoc], ?_,
      .inr ⟨evs, f, rfl, hw, hfq.trans hq, by rw [htq, hq], htb, port⟩⟩
    simpa [List.countP_append, isDeliver] using hn

/-- Settles O4: the transaction taken is transacted whole (`step_fetched`), and with none waiting the step is idle. -/
theorem stepRunsTransaction : Obligations.StepRunsTransaction := by
  refine ⟨fun s u t i hf hd => ?_, fun s h => ?_⟩
  · rw [step_fetched hf hd]
    cases exec i u <;> rfl
  · simp only [step, fetch_none_of_empty h]

/-- Settles O58: each row is `emit` of its event by definition, DELIVER's length field apart (`emitDeliver_event`). -/
theorem outputRowsEmit : Obligations.OutputRowsEmit := by
  intro s
  refine ⟨fun _ => rfl, fun _ _ _ => rfl, fun b0 seq flags p => ?_, fun _ _ => rfl, fun _ => rfl, rfl, fun _ => rfl⟩
  exact congrArg Host.Outcome.next (emitDeliver_event b0 seq flags p s)

end Sys2Proof.Machine
end

section
/-! PROOFS. The parts of a sound state (R53): what the session, the SEND in progress and the reassembly each keep, and
that `Sound` is these parts together with nothing left to do at a free port. -/

namespace Sys2Proof.Machine

/-! ## The parts -/

/-- No acknowledgement is awaited or has come early, and the timer is stopped (R230, R233, R236). -/
def NothingPending (s : State) : Prop := s.pendValid = false ∧ s.pendAcked = false ∧ s.pendRemain = 0

/-- A SEND in progress has a timeout (R238), and a Control message fits one frame (R187). -/
def OperandsFit (s : State) : Prop := s.txTimeout ≠ 0 ∧ (s.txClass = .control → s.txLen.toNat ≤ capEff s)

/-- A frame of the SEND holds the write port; it is pending unless it asks for no ACK or its ACK came early
(R230, R233). -/
def AwaitsWrite (s : State) : Prop :=
  (s.portBusy = true ∧ s.portOwner = .send) ∧ s.pendRemain = 0 ∧
  (s.pendValid = true → s.txAckReq = true ∧ s.pendAcked = false ∧ s.pendSeq = s.txCurSeq) ∧
  (s.txAckReq = true → s.pendAcked = false → s.pendValid = true)

/-- The frame written last is pending and the timer runs (R231). -/
def AwaitsAck (s : State) : Prop :=
  s.pendValid = true ∧ s.pendAcked = false ∧ s.txAckReq = true ∧ s.pendSeq = s.txCurSeq ∧ s.pendRemain ≠ 0

/-- What holds in each value of TX_STATE (R39). -/
def PhaseSound (s : State) : Prop :=
  match s.txState with
  | .idle => NothingPending s
  | .issue => NothingPending s ∧ OperandsFit s
  | .writeWait => AwaitsWrite s ∧ OperandsFit s
  | .ackWait => AwaitsAck s ∧ OperandsFit s

/-- What holds of the latched SEND in every TX_STATE: TX_BUF is canonical (R44), the cursor is in the payload, and no
Control/ACK asks for an ACK (R252). -/
def LatchedSound (s : State) : Prop :=
  bufferWf s.txBuf = true ∧ s.txOff ≤ s.txLen ∧
  (s.txClass = .control → s.txSubtype = ackSubtype → s.txAckReq = false)

/-- What holds of the reassembly (R50, R188, R191, R194). -/
def ReassemblySound (s : State) : Prop :=
  bufferWf s.raBuf = true ∧ s.raCount ≤ s.raTarget ∧ (s.raActive = true → s.raClass = .data) ∧
  (s.raActive = false →
    s.raTarget = 0 ∧ s.raCount = 0 ∧ s.raClass = .control ∧ s.raSubtype = 0 ∧ s.raSeq = 0 ∧ s.raFlags = 0)

/-- What holds of the session and of the fatal record (R10, R34, R36, R292). -/
def SessionSound (s : State) : Prop :=
  LegalParams s.params ∧ (s.sess = .ready → Config.minCap ≤ s.cap) ∧ (s.linkOpen = true ↔ s.sess = .ready) ∧
  (s.fatal = true → s.sess ≠ .connecting) ∧ (s.fatal = false → s.fatalCode = 0)

/-- What holds between a transaction's own rule and the arbiter that follows it (R16): every clause of `Sound` but the
last, that nothing waits at a free port. -/
structure Coherent (s : State) : Prop where
  session : SessionSound s
  latched : LatchedSound s
  phase : PhaseSound s
  reassembly : ReassemblySound s
  ackq_fits : s.ackq.length ≤ s.params.ackqDepth
  silent : listening s = false → s.txState = .idle ∧ s.ackq = [] ∧ s.raActive = false
  port_free : s.sess ≠ .ready → s.portBusy = false

/-- Nothing is left for the arbiter to issue (R298). -/
def Settled (s : State) : Prop := listening s = true → s.portBusy = false → s.ackq = [] ∧ s.txState ≠ .issue

/-! ## The phases of a SEND -/

theorem phaseSound_idle {s : State} (h : s.txState = .idle) : PhaseSound s ↔ NothingPending s := by
  simp [PhaseSound, h]

theorem phaseSound_issue {s : State} (h : s.txState = .issue) :
    PhaseSound s ↔ NothingPending s ∧ OperandsFit s := by
  simp [PhaseSound, h]

theorem phaseSound_writeWait {s : State} (h : s.txState = .writeWait) :
    PhaseSound s ↔ AwaitsWrite s ∧ OperandsFit s := by
  simp [PhaseSound, h]

theorem phaseSound_ackWait {s : State} (h : s.txState = .ackWait) :
    PhaseSound s ↔ AwaitsAck s ∧ OperandsFit s := by
  simp [PhaseSound, h]

theorem PhaseSound.of_idle {s : State} (hs : s.txState = .idle) (h : NothingPending s) : PhaseSound s :=
  (phaseSound_idle hs).mpr h

theorem PhaseSound.of_issue {s : State} (hs : s.txState = .issue) (h : NothingPending s) (hf : OperandsFit s) :
    PhaseSound s :=
  (phaseSound_issue hs).mpr ⟨h, hf⟩

theorem PhaseSound.of_writeWait {s : State} (hs : s.txState = .writeWait) (h : AwaitsWrite s) (hf : OperandsFit s) :
    PhaseSound s :=
  (phaseSound_writeWait hs).mpr ⟨h, hf⟩

theorem PhaseSound.of_ackWait {s : State} (hs : s.txState = .ackWait) (h : AwaitsAck s) (hf : OperandsFit s) :
    PhaseSound s :=
  (phaseSound_ackWait hs).mpr ⟨h, hf⟩

theorem PhaseSound.operands {s : State} (h : PhaseSound s) (hi : s.txState ≠ .idle) : OperandsFit s := by
  cases hs : s.txState with
  | idle => exact absurd hs hi
  | issue => exact ((phaseSound_issue hs).mp h).2
  | writeWait => exact ((phaseSound_writeWait hs).mp h).2
  | ackWait => exact ((phaseSound_ackWait hs).mp h).2

/-- A frame is pending only while it is written or awaited, and it is the current one (R230). -/
theorem PhaseSound.pending {s : State} (h : PhaseSound s) (hp : s.pendValid = true) :
    (s.txAckReq = true ∧ (s.txState = .writeWait ∨ s.txState = .ackWait)) ∧ s.pendSeq = s.txCurSeq := by
  cases hs : s.txState <;> simp_all [PhaseSound, NothingPending, AwaitsWrite, AwaitsAck]

/-- An ACK comes early only while its frame is written (R233). -/
theorem PhaseSound.acked {s : State} (h : PhaseSound s) (ha : s.pendAcked = true) :
    s.pendValid = false ∧ s.txState = .writeWait := by
  cases hs : s.txState <;> simp_all [PhaseSound, NothingPending, AwaitsWrite, AwaitsAck]

/-- The timer runs only in ACK_WAIT (R231, R236). -/
theorem PhaseSound.stopped {s : State} (h : PhaseSound s) (hw : s.pendValid = false ∨ s.txState = .writeWait) :
    s.pendRemain = 0 := by
  cases hs : s.txState <;> simp_all [PhaseSound, NothingPending, AwaitsWrite, AwaitsAck]

/-! ## Sound states -/

/-- The phase of a sound state. -/
theorem Sound.phase {s : State} (h : Sound s) : PhaseSound s := by
  have unacked (hw : s.txState ≠ .writeWait) : s.pendAcked = false :=
    Bool.eq_false_iff.mpr fun ha => hw (h.acked_early ha).2
  have unpending (hw : s.txState ≠ .writeWait) (ha : s.txState ≠ .ackWait) : s.pendValid = false :=
    Bool.eq_false_iff.mpr fun hp => (h.pending_of_sent hp).2.elim hw ha
  have operands (hi : s.txState ≠ .idle) : OperandsFit s := ⟨h.timer_armed.2 hi, h.control_fits hi⟩
  cases hs : s.txState with
  | idle =>
    have hp := unpending (by simp [hs]) (by simp [hs])
    exact .of_idle hs ⟨hp, unacked (by simp [hs]), h.timer_stopped (.inl hp)⟩
  | issue =>
    have hp := unpending (by simp [hs]) (by simp [hs])
    exact .of_issue hs ⟨hp, unacked (by simp [hs]), h.timer_stopped (.inl hp)⟩ (operands (by simp [hs]))
  | writeWait =>
    refine .of_writeWait hs ⟨h.writeWait_owns_port hs, h.timer_stopped (.inr hs), fun hp => ?_, h.writeWait_pending hs⟩
      (operands (by simp [hs]))
    refine ⟨(h.pending_of_sent hp).1, Bool.eq_false_iff.mpr fun ha => ?_, h.pending_is_current hp⟩
    have hv := (h.acked_early ha).1
    simp [hp] at hv
  | ackWait =>
    obtain ⟨hp, hq⟩ := h.ackWait_pending hs
    exact .of_ackWait hs ⟨hp, unacked (by simp [hs]), (h.pending_of_sent hp).1, hq, h.timer_armed.1 hs⟩
      (operands (by simp [hs]))

theorem Sound.coherent {s : State} (h : Sound s) : Coherent s where
  session := ⟨h.params_legal, h.cap_when_ready, h.link_open_iff, h.fatal_recorded⟩
  latched := ⟨h.buffers_wf.1, h.counts_in_range.2, h.no_ack_of_ack⟩
  phase := h.phase
  reassembly := ⟨h.buffers_wf.2, h.counts_in_range.1, h.anchor_data, h.reassembly_clear⟩
  ackq_fits := h.ackq_fits
  silent hl := by
    by_cases hs : s.sess = .ready
    · have hf : s.fatal = true := by simpa [listening, hs] using hl
      obtain ⟨hi, _, hq, ha⟩ := h.idle_when_fatal hf
      exact ⟨hi, hq, ha⟩
    · obtain ⟨hi, _, hq, ha, _⟩ := h.idle_unless_ready hs
      exact ⟨hi, hq, ha⟩
  port_free hs := by
    obtain ⟨_, _, _, _, hb⟩ := h.idle_unless_ready hs
    exact hb

/-- `Sound` is its parts and nothing left to do at a free port. -/
theorem Coherent.sound {s : State} (h : Coherent s) (settled : Settled s) : Sound s := by
  obtain ⟨⟨params, cap, link, record⟩, ⟨txBuf, off, noAck⟩, phase, ⟨raBuf, count, data, clear⟩, fits, silent, port⟩ := h
  have cleared (hl : listening s = false) :
      s.txState = .idle ∧ s.pendValid = false ∧ s.ackq = [] ∧ s.raActive = false := by
    obtain ⟨hi, hq, ha⟩ := silent hl
    exact ⟨hi, ((phaseSound_idle hi).mp phase).1, hq, ha⟩
  have written (hs : s.txState = .writeWait) : AwaitsWrite s := ((phaseSound_writeWait hs).mp phase).1
  have awaited (hs : s.txState = .ackWait) : AwaitsAck s := ((phaseSound_ackWait hs).mp phase).1
  exact {
    pending_of_sent := fun hp => (phase.pending hp).1
    ackWait_pending := fun hs => have ⟨hp, _, _, hq, _⟩ := awaited hs; ⟨hp, hq⟩
    acked_early := phase.acked
    writeWait_owns_port := fun hs => (written hs).1
    idle_unless_ready := fun hs =>
      have ⟨hi, hp, hq, ha⟩ := cleared (by simp [listening, hs]); ⟨hi, hp, hq, ha, port hs⟩
    idle_when_fatal := fun hf => cleared (by simp [listening, hf])
    reassembly_clear := clear
    counts_in_range := ⟨count, off⟩
    timer_stopped := phase.stopped
    params_legal := params
    buffers_wf := ⟨txBuf, raBuf⟩
    ackq_fits := fits
    cap_when_ready := cap
    link_open_iff := link
    fatal_recorded := record
    writeWait_pending := fun hs => have ⟨_, _, _, hp⟩ := written hs; hp
    pending_is_current := fun hp => (phase.pending hp).2
    timer_armed := ⟨fun hs => have ⟨_, _, _, _, hr⟩ := awaited hs; hr, fun hi => (phase.operands hi).1⟩
    control_fits := fun hi => (phase.operands hi).2
    no_ack_of_ack := noAck
    settled := settled
    anchor_data := data }

end Sys2Proof.Machine
end

section
/-! PROOFS. What an input transaction's own rule is, by its tag, and the session registers: which rules leave the
parameters, SESS and CAP alone, and which three change SESS (R33, R312). -/

namespace Sys2Proof.Machine

/-! ## The rules that transactions run -/

/-- All that an input transaction's own rule can be (R120, R290): an unassigned tag or a QUERY is
answered by one event, every other runs its row. -/
theorem exec_cases {b : Bytes} {i : Instr} {s t : State} (hd : decode .input b = .ok i) (h : exec i s = .next t) :
    (∃ e, t = emit e s) ∨ (∃ a, i = .ready a ∧ execReady a s = .next t) ∨
    (∃ a, i = .send a ∧ execSend a s = .next t) ∨ (∃ a, i = .close a ∧ execClose a s = .next t) ∨
    (∃ p, b = 0x80 :: p ∧ notifyBytes p s = .next t) ∨ (∃ st, b = [0x81, st] ∧ execWriteDone st s = .next t) ∨
    (i = .tick ∧ t = timerStep s) ∨ (i = .linkDown ∧ execLinkDown s = .next t) := by
  have answered {e : Bytes} (he : exec i s = .next (emit e s)) : ∃ e, t = emit e s :=
    ⟨e, Host.Outcome.next.inj (h.symm.trans he)⟩
  obtain ⟨tag, rest, rfl, hi⟩ := decodeInput_cases hd
  rcases hi with ⟨_, rfl⟩ | ⟨_, rfl⟩ | ⟨_, rfl⟩ | ⟨_, rfl⟩ | ⟨_, rfl⟩ | ⟨_, rfl⟩ | ⟨_, rfl⟩ | ⟨_, rfl⟩ | ⟨_, rfl⟩ |
    ⟨_, rfl⟩ | ⟨_, rfl⟩ | ⟨rfl, rfl⟩ | ⟨rfl, st, rfl, rfl⟩ | ⟨_, _, rfl⟩ | ⟨_, _, rfl⟩ | ⟨_, rfl⟩ | ⟨_, rfl⟩ | ⟨_, rfl⟩ |
    ⟨_, rfl⟩ | ⟨_, rfl⟩
  · exact .inl (answered rfl)
  · exact .inr (.inl ⟨_, rfl, h⟩)
  · exact .inr (.inr (.inl ⟨_, rfl, h⟩))
  · exact .inr (.inr (.inr (.inl ⟨_, rfl, h⟩)))
  · cases hn : noArgs rest <;> rw [hn] at answered <;> exact .inl (answered rfl)
  iterate 6 exact .inl (answered rfl)
  · iterate 4 refine .inr ?_
    exact .inl ⟨rest, rfl, h⟩
  · iterate 5 refine .inr ?_
    exact .inl ⟨st, rfl, h⟩
  · iterate 6 refine .inr ?_
    exact .inl ⟨rfl, (Host.Outcome.next.inj h).symm⟩
  · iterate 7 refine .inr ?_
    exact ⟨rfl, h⟩
  all_goals cases h

/-- All that READY can do (R292): a CMD_DONE that refuses it, or a session opened from CONNECTING. -/
theorem execReady_cases {a : ReadyArgs} {s t : State} (h : execReady a s = .next t) :
    (∃ e, t = emit e s) ∨
    ∃ cap, a = .capacity cap ∧ s.sess = .connecting ∧ Config.minCap ≤ cap ∧
      t = emit [0xC1, 0x01, 0x00, 0] { s with cap := cap, sess := .ready, linkOpen := true } := by
  cases a with
  | badLength rest => cases h; exact .inl ⟨_, rfl⟩
  | capacity cap =>
    unfold execReady at h
    dsimp only at h
    split at h <;> cases h
    · exact .inl ⟨_, rfl⟩
    · rename_i hc
      rw [not_or, not_not, BitVec.not_lt] at hc
      exact .inr ⟨cap, rfl, hc.1, hc.2, rfl⟩

/-- The state in which CLOSE and LINK_DOWN leave the block, `out` emitted so far (R296, R297, R310). -/
def closedDown (out : List Bytes) (s : State) : State :=
  { teardown s with sess := .closed, linkOpen := false, out := out }

/-- All that CLOSE can do (R297). -/
theorem execClose_cases {a : NoArgs} {s t : State} (h : execClose a s = .next t) :
    (∃ e, t = emit e s) ∨ a = .exact ∧ s.sess ≠ .closed ∧ t = closedDown t.out s := by
  cases a with
  | badLength rest => cases h; exact .inl ⟨_, rfl⟩
  | exact =>
    unfold execClose at h
    dsimp only at h
    split at h <;> cases h
    · exact .inl ⟨_, rfl⟩
    · refine .inr ⟨rfl, ‹_›, ?_⟩
      rw [releaseLink_eq, failSend_eq]
      rfl

/-- All that LINK_DOWN can do (R310). -/
theorem execLinkDown_cases {s t : State} (h : execLinkDown s = .next t) :
    (s.sess = .closed ∧ t = s) ∨ s.sess ≠ .closed ∧ t = closedDown t.out s := by
  unfold execLinkDown at h
  split at h <;> cases h
  · exact .inl ⟨‹_›, rfl⟩
  · refine .inr ⟨‹_›, ?_⟩
    rw [failSend_eq]
    rfl

/-! ## CLASSIFY moves the SEND in progress only -/

/-- `t` is `s` with another progress of its SEND and other events: TX_STATE, PEND_VALID, PEND_ACKED, PEND_REMAIN. -/
def OnlyProgress (s t : State) : Prop :=
  t = { s with
    txState := t.txState
    pendValid := t.pendValid
    pendAcked := t.pendAcked
    pendRemain := t.pendRemain
    out := t.out }

theorem ackResolve_only {p : Bytes} {s t : State} (h : ackResolve p s = .ok t) : OnlyProgress s t := by
  rcases ackResolve_cases h with ⟨_, h⟩ | ⟨_, _, _, _, _, _, h⟩ | ⟨_, _, _, _, _, _, h⟩ | ⟨_, _, _, _, h⟩ <;> cases h
  · rw [advance_eq]
    rfl
  · rfl
  · rfl

theorem classify_only {m : Message} {s t : State} (h : classify m s = .ok t) : OnlyProgress s t := by
  unfold classify at h
  split at h
  · exact ackResolve_only h
  · cases h
    rfl

/-! ## The session registers -/

/-- What of the session no frame, no write and no timer changes: the parameters, SESS and CAP. -/
def sessionOf (s : State) : Params × Sess × Half := (s.params, s.sess, s.cap)

@[simp] theorem sessionOf_emit (e : Bytes) (s : State) : sessionOf (emit e s) = sessionOf s := rfl

@[simp] theorem sessionOf_fatalEntry (code : FatalCode) (s : State) : sessionOf (fatalEntry code s) = sessionOf s := by
  rw [fatalEntry_eq]
  rfl

@[simp] theorem sessionOf_advance (s : State) : sessionOf (advance s) = sessionOf s := by
  rw [advance_eq]
  rfl

@[simp] theorem sessionOf_timerStep (s : State) : sessionOf (timerStep s) = sessionOf s := by
  rcases timerStep_cases s with ⟨_, h⟩ | ⟨_, _, _, h⟩ | ⟨_, _, _, h⟩ <;> rw [h] <;> rfl

@[simp] theorem sessionOf_oweFrameAck (f : Frame) (s : State) : sessionOf (oweFrameAck f s) = sessionOf s := by
  rw [oweFrameAck_eq]
  rfl

@[simp] theorem sessionOf_oweMessageAck (m : Message) (s : State) : sessionOf (oweMessageAck m s) = sessionOf s := by
  rw [oweMessageAck_eq]
  rfl

theorem OnlyReassembly.sessionOf {s t : State} (h : OnlyReassembly s t) : sessionOf t = sessionOf s := by
  rw [h]
  rfl

theorem OnlyProgress.sessionOf {s t : State} (h : OnlyProgress s t) : sessionOf t = sessionOf s := by
  rw [h]
  rfl

@[simp] theorem sessionOf_finishMessage (m : Message) (s : State) : sessionOf (finishMessage m s) = sessionOf s := by
  unfold finishMessage
  split
  · exact sessionOf_fatalEntry _ s
  · rename_i t h
    exact (sessionOf_oweMessageAck m t).trans (classify_only h).sessionOf

/-- A received frame leaves the session registers alone, whatever it is (R300, R301). -/
theorem notifyBytes_sessionOf {b : Bytes} {s t : State} (h : notifyBytes b s = .next t) :
    sessionOf t = sessionOf s := by
  unfold notifyBytes afterDecode at h
  split at h
  · split at h
    · cases h
      exact sessionOf_fatalEntry _ s
    rename_i f _
    rcases acceptFrame_cases f s with
      ⟨_, ha⟩ | ⟨_, u, hu, ⟨_, _, ha⟩ | ⟨_, ⟨_, v, hv, ha⟩ | ⟨v, hv, ha⟩ | ⟨_, v, hv, ha⟩⟩⟩ <;> cases ha.symm.trans h
    · exact sessionOf_fatalEntry _ s
    all_goals have heard : sessionOf u = sessionOf s := by rw [hu]; rfl
    · exact (sessionOf_fatalEntry _ u).trans heard
    all_goals have left : sessionOf v = sessionOf u := (reassemble_only (by rw [hv]; rfl)).sessionOf
    · exact (sessionOf_fatalEntry _ v).trans (left.trans heard)
    · exact (sessionOf_oweFrameAck f v).trans (left.trans heard)
    · rw [sessionOf_finishMessage, sessionOf_oweFrameAck, left, heard]
  · cases h
    rfl

theorem execSend_sessionOf {a : SendArgs} {s t : State} (h : execSend a s = .next t) : sessionOf t = sessionOf s := by
  rcases execSend_cases h with ⟨_, _, rfl⟩ | ⟨_, _, _, _, _, _, _, _, _, rfl⟩ <;> rfl

theorem execWriteDone_sessionOf {st : Byte} {s t : State} (h : execWriteDone st s = .next t) :
    sessionOf t = sessionOf s := by
  unfold execWriteDone at h
  split at h
  · split at h <;> cases h
    · unfold ackWriteDone
      split <;> rfl
    · unfold sendWriteDone
      iterate 3
        split
        · rfl
      exact sessionOf_advance _
  · cases h
    rfl

theorem arbiter_sessionOf {s t : State} (h : arbiter s = .next t) : sessionOf t = sessionOf s := by
  rcases arbiter_cases s with ⟨_, ha⟩ | ⟨_, _, a, rest, _, ha⟩ | ⟨_, _, _, _, ha⟩ <;> cases ha.symm.trans h <;> rfl

/-- The three rules that change the session: READY opens it, CLOSE and LINK_DOWN close it (R312). -/
theorem exec_sessionOf {b : Bytes} {i : Instr} {s t : State} (hd : decode .input b = .ok i) (h : exec i s = .next t) :
    sessionOf t = sessionOf s ∨
    (∃ cap, i = .ready (.capacity cap) ∧ s.sess = .connecting ∧ Config.minCap ≤ cap ∧
      sessionOf t = (s.params, .ready, cap)) ∨
    ((i = .close .exact ∨ i = .linkDown) ∧ s.sess ≠ .closed ∧ sessionOf t = (s.params, .closed, s.cap)) := by
  rcases exec_cases hd h with
    ⟨_, rfl⟩ | ⟨a, rfl, h⟩ | ⟨a, rfl, h⟩ | ⟨a, rfl, h⟩ | ⟨p, _, h⟩ | ⟨st, _, h⟩ | ⟨_, rfl⟩ | ⟨rfl, h⟩
  · exact .inl rfl
  · rcases execReady_cases h with ⟨_, rfl⟩ | ⟨cap, rfl, hs, hc, rfl⟩
    · exact .inl rfl
    · exact .inr (.inl ⟨cap, rfl, hs, hc, rfl⟩)
  · exact .inl (execSend_sessionOf h)
  · rcases execClose_cases h with ⟨_, rfl⟩ | ⟨rfl, hs, ht⟩
    · exact .inl rfl
    · exact .inr (.inr ⟨.inl rfl, hs, by rw [ht]; rfl⟩)
  · exact .inl (notifyBytes_sessionOf h)
  · exact .inl (execWriteDone_sessionOf h)
  · exact .inl (sessionOf_timerStep s)
  · rcases execLinkDown_cases h with ⟨_, rfl⟩ | ⟨hs, ht⟩
    · exact .inl rfl
    · exact .inr (.inr ⟨.inr rfl, hs, by rw [ht]; rfl⟩)

/-- No step changes the parameters (R370). -/
theorem step_params {s t : State} (h : step s = .next t) : t.params = s.params := by
  rcases step_cases h with ⟨_, rfl⟩ | ⟨b, u, i, v, hf, hd, he, ha⟩
  · rfl
  obtain ⟨_, rfl⟩ := fetch_cases hf
  have kept := arbiter_sessionOf ha
  rcases exec_sessionOf hd he with hv | ⟨_, _, _, _, hv⟩ | ⟨_, _, hv⟩ <;> exact congrArg Prod.fst (kept.trans hv)

/-- Settles O56: by `exec_sessionOf` a transaction's own rule changes SESS only as READY, CLOSE or LINK_DOWN, and the
arbiter does not (`arbiter_sessionOf`). -/
theorem sessionTransitions : Obligations.SessionTransitions := by
  intro s t h
  rcases step_cases h with ⟨_, rfl⟩ | ⟨b, u, i, v, hf, hd, he, ha⟩
  · exact .inl rfl
  have same := hf
  obtain ⟨_, rfl⟩ := fetch_cases hf
  have kept := arbiter_sessionOf ha
  rcases exec_sessionOf hd he with hv | ⟨cap, rfl, hs, hc, hv⟩ | ⟨hi, hs, hv⟩ <;>
    obtain ⟨_, ht, hcap⟩ : _ ∧ _ ∧ _ := by simpa only [sessionOf, Prod.mk.injEq] using kept.trans hv
  · exact .inl ht
  · exact .inr ⟨b, _, _, same, hd, .inl ⟨hs, ht, cap, rfl, hc, hcap⟩⟩
  · exact .inr ⟨b, _, i, same, hd, .inr ⟨hs, ht, hi⟩⟩

end Sys2Proof.Machine
end

section
/-! PROOFS. Reset (R370): the state it leaves is sound, waits, and answers QUERY with zeros. -/

namespace Sys2Proof.Machine

/-- Reset leaves no SEND, no reassembly and no owed ACK, in CONNECTING (R370). -/
theorem resetWith_coherent {p : Params} (h : LegalParams p) (input out : List Bytes) :
    Coherent (State.resetWith p input out) where
  session := ⟨h, by simp [State.resetWith], by simp [State.resetWith], by simp [State.resetWith], fun _ => rfl⟩
  latched := ⟨rfl, BitVec.le_refl _, fun _ _ => rfl⟩
  phase := ⟨rfl, rfl, rfl⟩
  reassembly := ⟨rfl, BitVec.le_refl _, by simp [State.resetWith], fun _ => ⟨rfl, rfl, rfl, rfl, rfl, rfl⟩⟩
  ackq_fits := Nat.zero_le _
  silent _ := ⟨rfl, rfl, rfl⟩
  port_free _ := rfl

theorem resetWith_sound {p : Params} (h : LegalParams p) (input out : List Bytes) :
    Sound (State.resetWith p input out) :=
  (resetWith_coherent h input out).sound fun hl => by simp [listening, State.resetWith] at hl

/-- The parameters of the machine that leaves reset are legal, whatever the open ones are (R10). -/
theorem initial_legal : LegalParams Params.initial where
  depth_pos := Nat.le_add_left 1 _
  timeout_pos h := by
    have hlt := Config.timeoutIndex.isLt
    have h0 : (Config.timeoutIndex.val + 1) % 2 ^ 16 = 0 := congrArg BitVec.toNat h
    omega

/-- Settles O48: reset leaves a coherent state that does not listen, so nothing is left to do (`resetWith_sound`). -/
theorem invariantAtReset : Obligations.InvariantAtReset :=
  ⟨resetWith_sound initial_legal [] [], fun _ input out h => resetWith_sound h input out⟩

/-- A QUERY right after reset answers 26 zero bytes (R137, R298, R370). -/
theorem transact_query_reset :
    transact [0x04] State.reset = .next { State.reset with out := [0xC6 :: List.replicate 26 0] } := rfl

/-- Settles O57: the registers are those of `State.resetWith` by definition, ACKQ has room since its depth is positive,
and no step changes the parameters (`step_params`). -/
theorem resetState : Obligations.ResetState := by
  refine ⟨fun _ _ _ => ⟨[], [], rfl⟩, rfl, rfl, ?_, transact_query_reset, fun _ _ => step_params⟩
  exact decide_eq_true (Nat.succ_pos Config.ackqSpare)

end Sys2Proof.Machine
end

section
/-! PROOFS. SEND (R294): when it is accepted, and what it then latches. -/

namespace Sys2Proof.Machine

/-- The SEND passes the checks of R294 that come after its length's, `cls` being its class. -/
structure SendAdmitted (b0 opts : Byte) (payload : Bytes) (cls : FrameClass) (s : State) : Prop where
  wellFormed : sendMalformed b0 opts payload = false
  ready : s.sess = .ready
  alive : s.fatal = false
  idle : s.txState = .idle
  class_named : frameClass (classField b0) = some cls
  no_ack_of_ack : ¬(cls = .control ∧ subtypeField b0 = ackSubtype ∧ optAckReq opts = true)
  control_fits : ¬(cls = .control ∧ capEff s < payload.length)

/-- The state after an accepted SEND (R294). -/
def sendLatched (cls : FrameClass) (b0 opts : Byte) (timeout : Half) (payload : Bytes) (s : State) : State :=
  { latchSend cls b0 opts timeout payload.length s with txBuf := writeBytes s.txBuf 0 payload }

/-- A well-formed SEND fits TX_BUF (R11, R44). -/
theorem length_le_of_wellFormed {b0 opts : Byte} {p : Bytes} (h : sendMalformed b0 opts p = false) :
    0 + p.length ≤ Config.bufferSize := by
  simp only [sendMalformed, Bool.or_eq_false_iff, decide_eq_false_iff_not, Nat.not_lt] at h
  obtain ⟨⟨hl, _⟩, _⟩ := h
  rw [Nat.zero_add]
  exact hl

theorem execSend_admitted {b0 opts : Byte} {payload : Bytes} {cls : FrameClass} {s : State}
    (h : SendAdmitted b0 opts payload cls s) (timeout : Half) :
    execSend (.message b0 opts timeout payload) s = .next (sendLatched cls b0 opts timeout payload s) := by
  unfold execSend sendLatched
  simp [h.wellFormed, h.ready, h.alive, h.idle, h.class_named, h.no_ack_of_ack, h.control_fits,
    memWrite_inside s.txBuf (length_le_of_wellFormed h.wellFormed)]

/-- A rule that checks a condition answers from one of its two branches. -/
theorem ite_next {c : Prop} [Decidable c] {x t : State} {o : Host.Outcome State Fault Refusal}
    (h : (if c then .next x else o) = .next t) : (c ∧ t = x) ∨ (¬c ∧ o = .next t) := by
  by_cases hc : c
  · rw [if_pos hc] at h
    exact .inl ⟨hc, (Host.Outcome.next.inj h).symm⟩
  · rw [if_neg hc] at h
    exact .inr ⟨hc, h⟩

/-- All that SEND can do: a CMD_DONE that refuses it, or the latching of one that passed every check (R294). -/
theorem execSend_refused_or_admitted {a : SendArgs} {s t : State} (h : execSend a s = .next t) :
    (∃ e, t = emit e s) ∨
    ∃ b0 opts timeout payload cls, SendAdmitted b0 opts payload cls s ∧
      t = sendLatched cls b0 opts timeout payload s := by
  cases a with
  | badLength rest => cases h; exact .inl ⟨_, rfl⟩
  | message b0 opts timeout payload =>
    have whole := h
    unfold execSend at h
    dsimp only at h
    rcases ite_next h with ⟨_, rfl⟩ | ⟨wellFormed, h⟩; · exact .inl ⟨_, rfl⟩
    rcases ite_next h with ⟨_, rfl⟩ | ⟨ready, h⟩; · exact .inl ⟨_, rfl⟩
    rcases ite_next h with ⟨_, rfl⟩ | ⟨alive, h⟩; · exact .inl ⟨_, rfl⟩
    rcases ite_next h with ⟨_, rfl⟩ | ⟨idle, h⟩; · exact .inl ⟨_, rfl⟩
    cases named : frameClass (classField b0) with
    | none => simp only [named] at h; cases h; exact .inl ⟨_, rfl⟩
    | some cls =>
      simp only [named] at h
      rcases ite_next h with ⟨_, rfl⟩ | ⟨noAck, h⟩; · exact .inl ⟨_, rfl⟩
      rcases ite_next h with ⟨_, rfl⟩ | ⟨fits, _⟩; · exact .inl ⟨_, rfl⟩
      have admitted : SendAdmitted b0 opts payload cls s :=
        ⟨Bool.eq_false_iff.mpr wellFormed, not_not.mp ready, Bool.eq_false_iff.mpr alive, not_not.mp idle, named, noAck,
          fits⟩
      rw [execSend_admitted admitted] at whole
      exact .inr ⟨b0, opts, timeout, payload, cls, admitted, (Host.Outcome.next.inj whole).symm⟩

/-! ## The operands as arithmetic -/

/-- The class of a class field that is not reserved (R103). -/
theorem frameClass_of_lt {b0 : Byte} (h : b0.toNat % 4 < 2) :
    frameClass (classField b0) = some (if b0.toNat % 4 = 0 then .control else .data) := by
  have hc := classField_toNat b0
  have iff (v : BitVec 2) : classField b0 = v ↔ b0.toNat % 4 = v.toNat := by rw [← BitVec.toNat_inj, hc]
  by_cases h0 : b0.toNat % 4 = 0
  · rw [frameClass, if_pos ((iff 0).mpr h0), if_pos h0]
  · have h1 : b0.toNat % 4 = (1 : BitVec 2).toNat := by simp only [BitVec.reduceToNat]; omega
    rw [frameClass, if_neg (fun e => h0 ((iff 0).mp e)), if_pos ((iff 1).mpr h1), if_neg h0]

/-- The subtype field as the rule of R101 computes it. -/
theorem subtypeField_eq (b0 : Byte) : subtypeField b0 = BitVec.ofNat 6 (b0.toNat / 4) := by
  apply BitVec.eq_of_toNat_eq
  have := b0.isLt
  rw [subtypeField_toNat, BitVec.toNat_ofNat]
  omega

/-- `opts` below 4 has its reserved bits zero (R122). -/
theorem optReserved_of_lt {opts : Byte} (h : opts.toNat < 4) : optReserved opts = 0 := by
  apply BitVec.eq_of_toNat_eq
  rw [show (optReserved opts).toNat = opts.toNat / 4 from subtypeField_toNat opts]
  exact Nat.div_eq_of_lt h

/-- Settles O21: such a SEND is admitted (`execSend_admitted`), and TX_BUF reads as the payload was written
(`readByte_writeBytes`). -/
theorem sendAccepted : Obligations.SendAccepted := by
  intro b0 opts timeout p s hlen hbuf hopts hcls hready halive hidle hcontrol
  have named := frameClass_of_lt hcls
  have wellFormed : sendMalformed b0 opts p = false := by
    simp [sendMalformed, optReserved_of_lt hopts, named, Config.maxPayload, Nat.not_lt.mpr hlen]
  have inside := length_le_of_wellFormed wellFormed
  have control (h : (if b0.toNat % 4 = 0 then FrameClass.control else .data) = .control) : b0.toNat % 4 = 0 := by
    by_contra h0
    simp [h0] at h
  have admitted : SendAdmitted b0 opts p (if b0.toNat % 4 = 0 then .control else .data) s := by
    refine ⟨wellFormed, hready, halive, hidle, named, fun ⟨hc, hs, ha⟩ => ?_, fun ⟨hc, hl⟩ => ?_⟩
    · refine (hcontrol (control hc)).1 ⟨?_, ha⟩
      rw [← subtypeField_toNat, hs]
      rfl
    · exact absurd (hcontrol (control hc)).2 (Nat.not_le.mpr hl)
  refine ⟨writeBytes s.txBuf 0 p, ?_, writeBytes_wf hbuf inside, fun a => ?_⟩
  · rw [← subtypeField_eq]
    exact execSend_admitted admitted timeout
  · simpa using readByte_writeBytes hbuf inside a

end Sys2Proof.Machine
end

section
/-! PROOFS. Every step keeps the invariants of R53: each rule keeps the parts of a sound state, and the arbiter, which
runs last, leaves nothing to do at a free port (R245, R298). -/

namespace Sys2Proof.Machine

/-! ## What a part does not read -/

/-- RX_EXP, the waiting transactions and the events are read by no part. -/
theorem Coherent.unread {s : State} (h : Coherent s) (rxExp : Byte) (input out : List Bytes) :
    Coherent { s with rxExp := rxExp, input := input, out := out } :=
  ⟨h.session, h.latched, h.phase, h.reassembly, h.ackq_fits, h.silent, h.port_free⟩

theorem Coherent.emit {s : State} (h : Coherent s) (e : Bytes) : Coherent (emit e s) :=
  h.unread s.rxExp s.input (s.out ++ [e])

/-- While the block listens, nothing need be idle (R36, R301). -/
theorem Coherent.of_listening {s : State} (session : SessionSound s) (latched : LatchedSound s) (phase : PhaseSound s)
    (reassembly : ReassemblySound s) (fits : s.ackq.length ≤ s.params.ackqDepth) (hl : listening s = true) :
    Coherent s :=
  ⟨session, latched, phase, reassembly, fits, fun hn => by simp [hl] at hn, fun hs => absurd (listening_iff.mp hl).1 hs⟩

/-- A SEND is in progress only while the block listens. -/
theorem Coherent.listening_of_busy {s : State} (h : Coherent s) (hi : s.txState ≠ .idle) : listening s = true := by
  by_contra hl
  exact hi (h.silent (Bool.eq_false_iff.mpr hl)).1

/-! ## The progress of a SEND -/

/-- ADVANCE from a frame that is written and resolved (R234). -/
theorem advance_phase {s : State} (hn : NothingPending s) (hf : OperandsFit s) : PhaseSound (advance s) := by
  unfold advance
  split
  · exact .of_idle rfl hn
  · exact .of_issue rfl hn hf

theorem ackResolve_coherent {p : Bytes} {s t : State} (h : Coherent s) (hl : listening s = true)
    (hr : ackResolve p s = .ok t) : Coherent t := by
  rcases ackResolve_cases hr with
    ⟨_, hr⟩ | ⟨_, _, _, _, _, hs, hr⟩ | ⟨_, _, _, hv, _, hs, hr⟩ | ⟨_, _, _, _, hr⟩ <;> cases hr
  · obtain ⟨⟨_, ha, _⟩, hf⟩ := (phaseSound_ackWait hs).mp h.phase
    have phase := advance_phase (s := { s with pendValid := false, pendRemain := 0 }) ⟨rfl, ha, rfl⟩ hf
    rw [advance_eq] at phase ⊢
    exact .of_listening h.session h.latched phase h.reassembly h.ackq_fits hl
  · obtain ⟨⟨_, sent⟩, _⟩ := h.phase.pending hv
    have hw : s.txState = .writeWait := sent.resolve_right hs
    obtain ⟨⟨port, stopped, _⟩, hf⟩ := (phaseSound_writeWait hw).mp h.phase
    have phase : PhaseSound { s with pendValid := false, pendAcked := true } :=
      .of_writeWait hw ⟨port, stopped, by simp, by simp⟩ hf
    exact .of_listening h.session h.latched phase h.reassembly h.ackq_fits hl
  · exact h.emit _

/-- A TICK counts down or ends the SEND (R236). -/
theorem timerStep_coherent {s : State} (h : Coherent s) : Coherent (timerStep s) := by
  rcases timerStep_cases s with ⟨_, e⟩ | ⟨_, hs, hr, e⟩ | ⟨_, hs, _, e⟩ <;> rw [e]
  · exact h
  all_goals
    obtain ⟨⟨hv, ha, hreq, hq, h0⟩, hf⟩ := (phaseSound_ackWait hs).mp h.phase
    have hl := h.listening_of_busy (by simp [hs])
  · have left : s.pendRemain - 1 ≠ 0 := by bv_omega
    have phase : PhaseSound { s with pendRemain := s.pendRemain - 1 } :=
      .of_ackWait hs ⟨hv, ha, hreq, hq, left⟩ hf
    exact .of_listening h.session h.latched phase h.reassembly h.ackq_fits hl
  · exact .of_listening h.session h.latched ⟨rfl, ha, rfl⟩ h.reassembly h.ackq_fits hl

/-- While no frame of the SEND is being written, its phase does not read the port. -/
theorem PhaseSound.withPort {s : State} (h : PhaseSound s) (hw : s.txState ≠ .writeWait) (busy : Bool)
    (owner : PortOwner) : PhaseSound { s with portBusy := busy, portOwner := owner } := by
  cases hs : s.txState with
  | idle => exact .of_idle rfl ((phaseSound_idle hs).mp h)
  | issue =>
    obtain ⟨hn, hf⟩ := (phaseSound_issue hs).mp h
    exact .of_issue rfl hn hf
  | writeWait => exact absurd hs hw
  | ackWait =>
    obtain ⟨ha, hf⟩ := (phaseSound_ackWait hs).mp h
    exact .of_ackWait rfl ha hf

/-- The port is freed of a write that is no SEND frame's. -/
theorem Coherent.freePort {s : State} (h : Coherent s) (hw : s.txState ≠ .writeWait) :
    Coherent { s with portBusy := false } :=
  ⟨h.session, h.latched, h.phase.withPort hw false s.portOwner, h.reassembly, h.ackq_fits, h.silent, fun _ => rfl⟩

/-- The completion of a SEND frame's write (R305): the SEND fails, awaits the ACK, or goes on. -/
theorem sendWriteDone_coherent {s : State} (h : Coherent s) (st : Byte) :
    Coherent (sendWriteDone st { s with portBusy := false }) := by
  unfold sendWriteDone
  split
  · exact h.freePort ‹_›
  rename_i hbusy
  have hw : s.txState = .writeWait := not_not.mp hbusy
  have hl := h.listening_of_busy (by simp [hw])
  obtain ⟨⟨_, stopped, pending, valid⟩, hf⟩ := (phaseSound_writeWait hw).mp h.phase
  split
  · have failed : Coherent { s with portBusy := false, pendValid := false, pendAcked := false, txState := .idle } :=
      .of_listening h.session h.latched (.of_idle rfl ⟨rfl, rfl, stopped⟩) h.reassembly h.ackq_fits hl
    exact failed.emit _
  split
  · rename_i hwait
    obtain ⟨hreq, ha⟩ : s.txAckReq = true ∧ s.pendAcked = false := by simpa using hwait
    have hv := valid hreq ha
    obtain ⟨_, _, hq⟩ := pending hv
    exact .of_listening h.session h.latched (.of_ackWait rfl ⟨hv, ha, hreq, hq, hf.1⟩ hf) h.reassembly h.ackq_fits hl
  · rename_i hdone
    have hv : s.pendValid = false := Bool.eq_false_iff.mpr fun hv => by
      obtain ⟨hreq, ha, _⟩ := pending hv
      simp [hreq, ha] at hdone
    have phase := advance_phase (s := { s with portBusy := false, pendAcked := false }) ⟨hv, rfl, stopped⟩ hf
    rw [advance_eq] at phase ⊢
    exact .of_listening h.session h.latched phase h.reassembly h.ackq_fits hl

theorem execWriteDone_coherent {st : Byte} {s t : State} (h : Coherent s) (he : execWriteDone st s = .next t) :
    Coherent t := by
  unfold execWriteDone at he
  split at he
  · split at he <;> cases he
    · rename_i howner
      have free := h.freePort fun hw => by
        obtain ⟨⟨⟨_, hsend⟩, _⟩, _⟩ := (phaseSound_writeWait hw).mp h.phase
        simp [howner] at hsend
      unfold ackWriteDone
      split
      · exact free.emit _
      · exact free
    · exact sendWriteDone_coherent h st
  · cases he
    exact h.emit _

/-! ## Clearing -/

/-- No reassembly is open (R194). -/
theorem clearReassembly_sound {s : State} (h : bufferWf s.raBuf = true) : ReassemblySound (clearReassembly s) :=
  ⟨h, BitVec.le_refl _, by simp, fun _ => ⟨rfl, rfl, rfl, rfl, rfl, rfl⟩⟩

/-- The fatal entry, which is taken in READY (R340). -/
theorem fatalEntry_coherent {s : State} (h : Coherent s) (hl : listening s = true) (code : FatalCode) :
    Coherent (fatalEntry code s) := by
  obtain ⟨params, cap, link, _⟩ := h.session
  have ready : s.sess ≠ .connecting := by simp [(listening_iff.mp hl).1]
  rw [fatalEntry_eq]
  exact ⟨⟨params, cap, link, fun _ => ready, by simp⟩, h.latched, ⟨rfl, rfl, rfl⟩,
    clearReassembly_sound h.reassembly.1, Nat.zero_le _, fun _ => ⟨rfl, rfl, rfl⟩, h.port_free⟩

/-- TEARDOWN and CLOSED (R296, R297, R310). -/
theorem closedDown_coherent {s : State} (h : Coherent s) (out : List Bytes) : Coherent (closedDown out s) := by
  obtain ⟨params, _, _, _, code⟩ := h.session
  exact ⟨⟨params, by simp [closedDown], by simp [closedDown], by simp [closedDown], code⟩, h.latched, ⟨rfl, rfl, rfl⟩,
    clearReassembly_sound h.reassembly.1, Nat.zero_le _, fun _ => ⟨rfl, rfl, rfl⟩, fun _ => rfl⟩

/-! ## The commands -/

/-- READY opens the session (R292), in which nothing has begun. -/
theorem execReady_coherent {a : ReadyArgs} {s t : State} (h : Coherent s) (he : execReady a s = .next t) :
    Coherent t := by
  rcases execReady_cases he with ⟨e, rfl⟩ | ⟨cap, _, hs, hc, rfl⟩
  · exact h.emit e
  obtain ⟨params, _, _, record, code⟩ := h.session
  have alive : s.fatal = false := Bool.eq_false_iff.mpr fun hf => record hf hs
  obtain ⟨idle, _⟩ := h.silent (by simp [listening, hs])
  have phase := (phaseSound_idle idle).mp h.phase
  have opened : Coherent { s with cap := cap, sess := .ready, linkOpen := true } :=
    .of_listening ⟨params, fun _ => hc, by simp, by simp, code⟩ h.latched (.of_idle idle phase) h.reassembly h.ackq_fits
      (listening_of rfl alive)
  exact opened.emit _

/-- The timeout that a SEND latches is not 0 (R238). -/
theorem effectiveTimeout_ne_zero {p : Params} (h : LegalParams p) (timeout : Half) :
    effectiveTimeout p timeout ≠ 0 := by
  unfold effectiveTimeout
  split
  · exact h.timeout_pos
  · assumption

/-- An accepted SEND is ready to issue its first frame (R294). -/
theorem execSend_coherent {a : SendArgs} {s t : State} (h : Coherent s) (he : execSend a s = .next t) : Coherent t := by
  rcases execSend_refused_or_admitted he with ⟨e, rfl⟩ | ⟨b0, opts, timeout, p, cls, ad, rfl⟩
  · exact h.emit e
  have operands : OperandsFit (sendLatched cls b0 opts timeout p s) := by
    refine ⟨effectiveTimeout_ne_zero h.session.1 timeout, fun hc => ?_⟩
    have fits : p.length ≤ capEff s := Nat.not_lt.mp fun hlt => ad.control_fits ⟨hc, hlt⟩
    calc (BitVec.ofNat 16 p.length).toNat = p.length % 2 ^ 16 := BitVec.toNat_ofNat ..
      _ ≤ p.length := Nat.mod_le ..
      _ ≤ capEff s := fits
  have latched : LatchedSound (sendLatched cls b0 opts timeout p s) :=
    ⟨writeBytes_wf h.latched.1 (length_le_of_wellFormed ad.wellFormed), BitVec.le_def.mpr (Nat.zero_le _),
      fun hc hs => Bool.eq_false_iff.mpr fun ha => ad.no_ack_of_ack ⟨hc, hs, ha⟩⟩
  exact .of_listening h.session latched ⟨(phaseSound_idle ad.idle).mp h.phase, operands⟩ h.reassembly h.ackq_fits
    (listening_of ad.ready ad.alive)

/-! ## Reassembly -/

/-- A copy that the target has room for stays in RA_BUF (R94). -/
theorem copied_wf {data : Bytes} {s : State} (h : ReassemblySound s)
    (hroom : s.raCount.toNat + data.length ≤ s.raTarget.toNat) : bufferWf (copied data s) = true :=
  writeBytes_wf h.1 (by have := s.raTarget.isLt; simp only [Config.bufferSize]; omega)

theorem appendData_coherent {data : Bytes} {s t : State} (h : Coherent s) (hl : listening s = true)
    (ha : s.raActive = true) (hr : (appendData data s).state? = some t) : Coherent t := by
  obtain ⟨_, _, anchor, _⟩ := h.reassembly
  rcases appendData_cases data s with ⟨_, e⟩ | ⟨hlt, e⟩ | ⟨heq, e⟩ <;> rw [e] at hr <;> cases hr
  · exact h
  · have count : BitVec.ofNat 16 (s.raCount.toNat + data.length) ≤ s.raTarget := by
      rw [BitVec.le_def, BitVec.toNat_ofNat]
      exact (Nat.mod_le ..).trans hlt.le
    exact .of_listening h.session h.latched h.phase
      ⟨copied_wf h.reassembly hlt.le, count, anchor, fun hn => by simp [ha] at hn⟩ h.ackq_fits hl
  · exact .of_listening h.session h.latched h.phase
      (clearReassembly_sound (s := { s with raBuf := copied data s }) (copied_wf h.reassembly heq.le)) h.ackq_fits hl

/-- A Data fragment anchors a reassembly (R191). -/
theorem startReassembly_coherent {f : Frame} {s : State} (h : Coherent s) (hl : listening s = true) (hc : f.cls = .data)
    (target : Half) : Coherent (startReassembly f target s) :=
  .of_listening h.session h.latched h.phase ⟨h.reassembly.1, BitVec.le_def.mpr (Nat.zero_le _), fun _ => hc, by simp⟩
    h.ackq_fits hl

theorem reassemble_coherent {f : Frame} {s t : State} (h : Coherent s) (hl : listening s = true)
    (hc : ¬(f.cls = .control ∧ fragFlag f.flags = true)) (hr : (reassemble f s).state? = some t) : Coherent t := by
  rcases reassemble_cases f s with ⟨_, _, e⟩ | ⟨_, _, e⟩ | ⟨data, ha, e⟩ | ⟨lo, hi, data, hf, _, _, e⟩ <;> rw [e] at hr
  · cases hr; exact h
  · cases hr; exact h
  · exact appendData_coherent h hl (by rcases ha with ⟨_, ha, _⟩ | ⟨_, ha, _⟩ <;> exact ha) hr
  · have data : f.cls = .data := by
      cases hcls : f.cls with
      | control => exact absurd ⟨hcls, hf⟩ hc
      | data => rfl
    exact appendData_coherent (startReassembly_coherent h hl data (rd16 lo hi)) hl rfl hr

/-! ## The inbound pipeline -/

/-- An owed ACK that ACKQ has room for (R243). -/
theorem Coherent.push {s : State} (h : Coherent s) (hl : listening s = true) (room : rxEnabled s = true) (seq : Byte) :
    Coherent (ackqPush seq s) := by
  have fits : (s.ackq ++ [seq]).length ≤ s.params.ackqDepth := by
    rw [List.length_append]
    exact of_decide_eq_true room
  exact .of_listening h.session h.latched h.phase h.reassembly fits hl

theorem oweFrameAck_coherent {s : State} (h : Coherent s) (hl : listening s = true) (room : rxEnabled s = true)
    (f : Frame) : Coherent (oweFrameAck f s) := by
  unfold oweFrameAck
  split
  · exact h.push hl room f.seq
  · exact h

/-- Under PER_DELIVERY a frame leaves the room that its message's ACK needs (R240). -/
theorem oweFrameAck_room {f : Frame} {s : State} (room : rxEnabled s = true)
    (hp : (oweFrameAck f s).params.ackPolicy = .perDelivery) : rxEnabled (oweFrameAck f s) = true := by
  rw [oweFrameAck_eq] at hp
  have none_owed : frameOwes f s = [] := if_neg fun h => by simp [h.1] at hp
  rw [oweFrameAck_eq, none_owed, List.append_nil]
  exact room

theorem classify_coherent {m : Message} {s t : State} (h : Coherent s) (hl : listening s = true)
    (hc : classify m s = .ok t) : Coherent t := by
  unfold classify at hc
  split at hc
  · exact ackResolve_coherent h hl hc
  · cases hc
    exact h.emit _

theorem finishMessage_coherent {s : State} (h : Coherent s) (hl : listening s = true)
    (room : s.params.ackPolicy = .perDelivery → rxEnabled s = true) (m : Message) : Coherent (finishMessage m s) := by
  unfold finishMessage
  split
  · exact fatalEntry_coherent h hl _
  rename_i t hc
  have ht := classify_coherent h hl hc
  have same := classify_only hc
  have listens : listening t = true := by rw [same]; exact hl
  unfold oweMessageAck
  split
  · rename_i owed
    have policy : s.params.ackPolicy = .perDelivery := by have hp := owed.1; rw [same] at hp; exact hp
    exact ht.push listens (by rw [same]; exact room policy) m.seq
  · exact ht

theorem acceptFrame_coherent {f : Frame} {s t : State} (h : Coherent s) (hl : listening s = true)
    (room : rxEnabled s = true) (he : acceptFrame f s = .next t) : Coherent t := by
  rcases acceptFrame_cases f s with ⟨_, e⟩ | ⟨_, u, hu, ⟨_, _, e⟩ | ⟨hc, hr⟩⟩
  · cases e.symm.trans he
    exact fatalEntry_coherent h hl _
  all_goals
    have hcu : Coherent u := hu ▸ h.unread (nextExpected s f.seq) s.input s.out
    have hlu : listening u = true := hu ▸ hl
    have roomu : rxEnabled u = true := hu ▸ room
  · cases e.symm.trans he
    exact fatalEntry_coherent hcu hlu _
  · have left {v : State} (hv : (reassemble f u).state? = some v) :
        Coherent v ∧ listening v = true ∧ rxEnabled v = true := by
      refine ⟨reassemble_coherent hcu hlu hc hv, ?_, ?_⟩ <;> rw [reassemble_only hv]
      · exact hlu
      · exact roomu
    rcases hr with ⟨code, v, hv, e⟩ | ⟨v, hv, e⟩ | ⟨m, v, hv, e⟩ <;> cases e.symm.trans he <;>
      obtain ⟨hcv, hlv, roomv⟩ := left (v := v) (by rw [hv]; rfl)
    · exact fatalEntry_coherent hcv hlv code
    · exact oweFrameAck_coherent hcv hlv roomv f
    · refine finishMessage_coherent (oweFrameAck_coherent hcv hlv roomv f) ?_ (oweFrameAck_room roomv) m
      rw [oweFrameAck_eq]
      exact hlv

theorem notifyBytes_coherent {b : Bytes} {s t : State} (h : Coherent s) (room : rxEnabled s = true)
    (he : notifyBytes b s = .next t) : Coherent t := by
  unfold notifyBytes afterDecode at he
  split at he
  · rename_i hl
    split at he
    · cases he
      exact fatalEntry_coherent h hl _
    · exact acceptFrame_coherent h hl room he
  · cases he
    exact h.emit _

/-- Every input transaction's own rule keeps the parts of a sound state. -/
theorem exec_coherent {b : Bytes} {i : Instr} {s t : State} (h : Coherent s)
    (room : ∀ p, b = 0x80 :: p → rxEnabled s = true) (hd : decode .input b = .ok i) (he : exec i s = .next t) :
    Coherent t := by
  rcases exec_cases hd he with
    ⟨e, rfl⟩ | ⟨a, _, he⟩ | ⟨a, _, he⟩ | ⟨a, _, he⟩ | ⟨p, hb, he⟩ | ⟨st, _, he⟩ | ⟨_, rfl⟩ | ⟨_, he⟩
  · exact h.emit e
  · exact execReady_coherent h he
  · exact execSend_coherent h he
  · rcases execClose_cases he with ⟨e, rfl⟩ | ⟨_, _, ht⟩
    · exact h.emit e
    · exact ht ▸ closedDown_coherent h t.out
  · exact notifyBytes_coherent h (room p hb) he
  · exact execWriteDone_coherent h he
  · exact timerStep_coherent h
  · rcases execLinkDown_cases he with ⟨_, rfl⟩ | ⟨_, ht⟩
    · exact h
    · exact ht ▸ closedDown_coherent h t.out

/-! ## The arbiter -/

/-- The cursor after a fragment stays in the payload (R180). -/
theorem nextFragment_off_le (len off cap : Nat) (p : Bytes) : (nextFragment len off cap p).off ≤ len := by
  unfold nextFragment
  split <;> simp only <;> omega

/-- The next frame of a SEND goes out (R245). -/
theorem issued_coherent {s : State} (h : Coherent s) (hl : listening s = true) (hs : s.txState = .issue) :
    Coherent (issued s) := by
  obtain ⟨⟨hv, _, stopped⟩, hf⟩ := (phaseSound_issue hs).mp h.phase
  have written : AwaitsWrite (issued s) := by
    cases hreq : s.txAckReq <;> simp [AwaitsWrite, issued, hreq, hv, stopped]
  have off : (issued s).txOff ≤ s.txLen := by
    rw [BitVec.le_def]
    calc (BitVec.ofNat 16 (currentFragment s).off).toNat = (currentFragment s).off % 2 ^ 16 := BitVec.toNat_ofNat ..
      _ ≤ (currentFragment s).off := Nat.mod_le ..
      _ ≤ s.txLen.toNat := nextFragment_off_le ..
  obtain ⟨txBuf, _, noAck⟩ := h.latched
  exact .of_listening h.session ⟨txBuf, off, noAck⟩ (.of_writeWait rfl written hf) h.reassembly h.ackq_fits hl

/-- An automatic ACK goes out of a free port, so no frame of the SEND is being written (R245). -/
theorem issueAck_coherent {s : State} {a : Byte} {rest : Bytes} (h : Coherent s) (hl : listening s = true)
    (hb : s.portBusy = false) (hq : s.ackq = a :: rest) : Coherent (issueAck a rest s) := by
  have unwritten : s.txState ≠ .writeWait := fun hs => by
    obtain ⟨⟨⟨busy, _⟩, _⟩, _⟩ := (phaseSound_writeWait hs).mp h.phase
    simp [hb] at busy
  have fits : rest.length ≤ s.params.ackqDepth := by
    have := h.ackq_fits
    rw [hq, List.length_cons] at this
    omega
  exact .of_listening h.session h.latched (h.phase.withPort unwritten true .autoAck) h.reassembly fits hl

/-- The arbiter leaves a sound state: it issues a frame and the port is busy, or there was nothing to issue (R245). -/
theorem arbiter_sound {s t : State} (h : Coherent s) (ha : arbiter s = .next t) : Sound t := by
  rcases arbiter_cases s with ⟨hn, e⟩ | ⟨hb, hl, a, rest, hq, e⟩ | ⟨_, hl, _, hs, e⟩ <;> cases e.symm.trans ha
  · refine h.sound fun hl hb => ?_
    rcases hn with hn | hn | hn
    · simp [hb] at hn
    · simp [hl] at hn
    · exact hn
  · exact (issueAck_coherent h hl hb hq).sound fun _ hfree => nomatch hfree
  · exact (issued_coherent h hl hs).sound fun _ hfree => nomatch hfree

/-- Settles O49: the transaction's own rule keeps the parts of the invariant (`exec_coherent`, an RX_NOTIFY being taken
only while ACKQ has room), and the arbiter restores the rest (`arbiter_sound`). -/
theorem invariantKept : Obligations.InvariantKept := by
  intro s t h hs
  rcases step_cases hs with ⟨_, rfl⟩ | ⟨b, u, i, v, hf, hd, he, ha⟩
  · exact h
  have taken : Coherent u := by
    obtain ⟨rest, rfl⟩ := fetch_cases hf
    exact h.coherent.unread s.rxExp rest s.out
  exact arbiter_sound (exec_coherent taken (fun p hb => fetch_rx (hb ▸ hf)) hd he) ha

end Sys2Proof.Machine
end

section
/-! PROOFS. Which waiting transaction a step takes, with the RX port held and with it enabled (R89, R243), and what an
RX_NOTIFY that carries a frame row's frame does (R126). -/

namespace Sys2Proof.Machine

/-! ## The RX port -/

/-- The RX port's transactions are those of tag 0x80 (R120). -/
theorem isRx_iff {t : Bytes} : isRx t = true ↔ t.head? = some 0x80 := by
  cases t <;> simp [isRx]

theorem takeEnabled_enabled_cons (t : Bytes) (ts : List Bytes) : takeEnabled false (t :: ts) = some (t, ts) := rfl

theorem takeEnabled_held_rx {t : Bytes} (h : isRx t = true) (ts : List Bytes) :
    takeEnabled true (t :: ts) = (takeEnabled true ts).map fun r => (r.1, t :: r.2) := by
  simp [takeEnabled, h]

theorem takeEnabled_held_other {t : Bytes} (h : isRx t = false) (ts : List Bytes) :
    takeEnabled true (t :: ts) = some (t, ts) := by
  simp [takeEnabled, h]

/-- A held RX port is passed over, and its transactions stay in their order (R89, R243). -/
theorem takeEnabled_held_append {xs : List Bytes} {t : Bytes} (hx : ∀ x ∈ xs, isRx x = true) (ht : isRx t = false)
    (rest : List Bytes) : takeEnabled true (xs ++ t :: rest) = some (t, xs ++ rest) := by
  induction xs with
  | nil => exact takeEnabled_held_other ht rest
  | cons x xs ih =>
    obtain ⟨hhead, htail⟩ := List.forall_mem_cons.mp hx
    rw [List.cons_append, takeEnabled_held_rx hhead, ih htail]
    rfl

/-- With nothing but RX transactions waiting a held RX port leaves none to take (R243). -/
theorem takeEnabled_held_none {ts : List Bytes} (h : ∀ x ∈ ts, isRx x = true) : takeEnabled true ts = none := by
  induction ts with
  | nil => rfl
  | cons t ts ih =>
    obtain ⟨hhead, htail⟩ := List.forall_mem_cons.mp h
    rw [takeEnabled_held_rx hhead, ih htail]
    rfl

/-- The RX port is held while ACKQ is full (R243). -/
theorem rxEnabled_full {s : State} (h : s.params.ackqDepth ≤ s.ackq.length) : rxEnabled s = false := by
  simpa [rxEnabled] using h

/-- The RX port is enabled while ACKQ has room (R243). -/
theorem rxEnabled_room {s : State} (h : s.ackq.length < s.params.ackqDepth) : rxEnabled s = true := by
  simpa [rxEnabled] using h

/-! ## The step that takes a transaction -/

theorem step_eq_transact {s : State} {t : Bytes} {rest : List Bytes}
    (h : takeEnabled (!rxEnabled s) s.input = some (t, rest)) : step s = transact t { s with input := rest } := by
  simp only [step, fetch, h, Option.map_some]

theorem step_eq_idle {s : State} (h : takeEnabled (!rxEnabled s) s.input = none) : step s = .next s := by
  simp only [step, fetch, h, Option.map_none]

/-! ## The statements -/

/-- Settles O6: a full ACKQ holds the RX port (`rxEnabled_full`), so the step takes the first transaction of another port
(`takeEnabled_held_append`), and waits if there is none; with room the first of all is taken. -/
theorem heldRxPort : Obligations.HeldRxPort := by
  refine fun s => ⟨fun full => ⟨fun xs t rest hin hx ht => ?_, fun hx => ?_⟩, fun room t rest hin => ?_⟩
  · refine step_eq_transact ?_
    have other : isRx t = false := Bool.eq_false_iff.mpr fun h => ht (isRx_iff.mp h)
    rw [rxEnabled_full full, hin]
    exact takeEnabled_held_append (fun x h => isRx_iff.mpr (hx x h)) other rest
  · refine step_eq_idle ?_
    rw [rxEnabled_full full]
    exact takeEnabled_held_none fun x h => isRx_iff.mpr (hx x h)
  · refine step_eq_transact ?_
    rw [rxEnabled_room room, hin]
    exact takeEnabled_enabled_cons t rest

/-- The bytes after the tag 0x80 are the notification's, whatever they are (R126). -/
theorem decode_rxNotify (b : Bytes) : decode .input (0x80 :: b) = .ok (.rxNotify b) := rfl

/-- Settles O5: a well-formed row's bytes split back into its fields (`splitFrame_of_bytes`), and on a frame's fields
the notification is the row's own meaning (`notifyBytes_split`, `exec_frame`). -/
theorem frameRowIsNotification : Obligations.FrameRowIsNotification := by
  intro i p s hw hp
  refine ⟨decode_rxNotify (encode i), ?_⟩
  calc exec (.rxNotify (encode i)) s = notifyBytes p.bytes s := by rw [encode_frame hp]; rfl
    _ = notifyFrame p s := notifyBytes_split (splitFrame_of_bytes (frameParts_wf hp hw)) s
    _ = exec i s := (exec_frame hp s).symm

end Sys2Proof.Machine
end

section
/-! PROOFS. No rule leaves a buffer (R94): each meaning leads to a next state or refuses its transaction. -/

namespace Sys2Proof.Machine

/-! ## The meanings that lead to a next state -/

theorem execReady_next (a : ReadyArgs) (s : State) : ∃ t, execReady a s = .next t := by
  cases a with
  | badLength rest => exact ⟨_, rfl⟩
  | capacity cap =>
    unfold execReady
    dsimp only
    split <;> exact ⟨_, rfl⟩

/-- The payload that reaches TX_BUF has passed SEND's first check, so it fits (R11, R94, R294). -/
theorem execSend_next (a : SendArgs) (s : State) : ∃ t, execSend a s = .next t := by
  cases a with
  | badLength rest => exact ⟨_, rfl⟩
  | message b0 opts timeout payload =>
    unfold execSend
    by_cases malformed : sendMalformed b0 opts payload = true
    · exact ⟨_, if_pos malformed⟩
    · have fits : memWrite s.txBuf 0 payload = some (writeBytes s.txBuf 0 payload) :=
        memWrite_inside s.txBuf (length_le_of_wellFormed (Bool.eq_false_iff.mpr malformed))
      simp only [if_neg malformed, fits]
      cases frameClass (classField b0) <;> dsimp only <;> split_ifs <;> exact ⟨_, rfl⟩

theorem execClose_next (a : NoArgs) (s : State) : ∃ t, execClose a s = .next t := by
  cases a with
  | badLength rest => exact ⟨_, rfl⟩
  | exact =>
    unfold execClose
    dsimp only
    split <;> exact ⟨_, rfl⟩

theorem execQuery_next (a : NoArgs) (s : State) : ∃ t, execQuery a s = .next t := by
  cases a <;> exact ⟨_, rfl⟩

theorem execWriteDone_next (st : Byte) (s : State) : ∃ t, execWriteDone st s = .next t := by
  unfold execWriteDone
  split
  · split <;> exact ⟨_, rfl⟩
  · exact ⟨_, rfl⟩

theorem execLinkDown_next (s : State) : ∃ t, execLinkDown s = .next t := by
  unfold execLinkDown
  split <;> exact ⟨_, rfl⟩

/-! ## Every instruction and every step -/

/-- The outcome is a next state or a refusal. -/
def Answers (o : Host.Outcome State Fault Refusal) : Prop := (∃ t, o = .next t) ∨ ∃ r, o = .refused r

theorem Answers.ne_fault {o : Host.Outcome State Fault Refusal} (h : Answers o) (r : Fault) : o ≠ .fault r := by
  rcases h with ⟨_, rfl⟩ | ⟨_, rfl⟩ <;> exact nofun

/-- A frame row is a notification (`exec_frame`), the other rows are run by name: only the reserved tags are refused. -/
theorem exec_answers (i : Instr) (s : State) : Answers (exec i s) := by
  cases row : i.frameParts with
  | some p => exact .inl (exec_frame row s ▸ notifyFrame_next p s)
  | none =>
    cases i with
    | ready a => exact .inl (execReady_next a s)
    | send a => exact .inl (execSend_next a s)
    | close a => exact .inl (execClose_next a s)
    | query a => exact .inl (execQuery_next a s)
    | rxNotify b => exact .inl (notifyBytes_next b s)
    | writeDone st => exact .inl (execWriteDone_next st s)
    | linkDown => exact .inl (execLinkDown_next s)
    | tick | cmdIllegal00 | cmdIllegal05 | cmdIllegal06 | cmdIllegal08 | cmdIllegal10 | cmdIllegal20 | cmdIllegal40
    | txWrite | cmdDone | deliver | log | fatal | release | queryResp => exact .inl ⟨_, rfl⟩
    | inputReserved84 | inputReserved88 | inputReserved90 | inputReservedA0 | inputReservedC0 => exact .inr ⟨_, rfl⟩
    | _ => cases row

/-- The arbiter never stops, so it keeps an answer one (R245). -/
theorem thenArbiter_answers {o : Host.Outcome State Fault Refusal} (h : Answers o) : Answers (thenArbiter o) := by
  rcases h with ⟨t, rfl⟩ | ⟨r, rfl⟩
  · exact .inl (arbiter_next t)
  · exact .inr ⟨r, rfl⟩

theorem transact_answers (t : Bytes) (s : State) : Answers (transact t s) := by
  unfold transact
  split
  · exact .inr ⟨_, rfl⟩
  · exact thenArbiter_answers (exec_answers _ s)

theorem step_answers (s : State) : Answers (step s) := by
  unfold step
  split
  · exact .inl ⟨s, rfl⟩
  · exact transact_answers _ _

/-- Settles O50: every instruction and every step answers with a next state or a refusal, which is no fault. -/
theorem noStepFaults : Obligations.NoStepFaults :=
  ⟨fun i s => (exec_answers i s).ne_fault, fun s => (step_answers s).ne_fault⟩

end Sys2Proof.Machine
end

section
/-! PROOFS. The decoder and the encoder are each other's inverse (R100, R120-R137): wire frames by their fields, input
transactions by their tag, output events by theirs. -/

namespace Sys2Proof

/-! ## Wire frames -/

/-- A reserved class is a set bit above its low one (R103). -/
theorem reserved_class_bits : ∀ cls : BitVec 2, ¬cls.toNat = 0 → ¬cls.toNat = 1 →
    ((1 : BitVec 1) ++ cls.extractLsb' 0 1 : BitVec (1 + 1)) = cls := by decide

/-- The row that a frame's fields are read as stands for those fields (R107, R108, R103). -/
theorem frameParts_frameInstr (p : FrameParts) : (frameInstr p).frameParts = some p := by
  obtain ⟨cls, subtype, t⟩ := p
  unfold frameInstr
  dsimp only
  split <;> simp only [Instr.frameParts, Option.some.injEq, FrameParts.mk.injEq, and_true]
  case h_21 => exact reserved_class_bits cls ‹cls.toNat = 0 → False› ‹cls.toNat = 1 → False›
  all_goals simp only [← BitVec.toNat_inj, BitVec.reduceToNat]; omega

/-- The row of a frame asks of its tail what the frame does: the OTHER rows are read for unnamed subtypes only. -/
theorem frameInstr_wf (p : FrameParts) : (frameInstr p).wf = p.tail.wf := by
  obtain ⟨cls, subtype, t⟩ := p
  unfold frameInstr
  dsimp only
  split <;> simp only [Instr.wf, Bool.and_eq_right_iff_imp]
  all_goals simp only [imp_false] at *
  case h_11 => exact fun _ => decide_eq_true (by omega)
  case h_20 =>
    simp only [dataUnnamed, Bool.not_eq_true', Bool.or_eq_false_iff, decide_eq_false_iff_not]
    omega

theorem frameInstr_ctrlOther {subtype : BitVec 6} (h : ctrlUnnamed subtype = true) (t : FrameTail) :
    frameInstr ⟨0, subtype, t⟩ = .ctrlOther subtype t := by
  simp only [ctrlUnnamed, decide_eq_true_eq] at h
  unfold frameInstr
  split <;> simp_all

theorem frameInstr_dataOther {subtype : BitVec 6} (h : dataUnnamed subtype = true) (t : FrameTail) :
    frameInstr ⟨1, subtype, t⟩ = .dataOther subtype t := by
  simp only [dataUnnamed, Bool.not_eq_true', Bool.or_eq_false_iff, decide_eq_false_iff_not] at h
  unfold frameInstr
  split <;> simp_all

theorem frameInstr_reservedClass (low : BitVec 1) (subtype : BitVec 6) (t : FrameTail) :
    frameInstr ⟨((1 : BitVec 1) ++ low : BitVec (1 + 1)), subtype, t⟩ = .reservedClass low subtype t := by
  have reserved : 2 ≤ ((1 : BitVec 1) ++ low : BitVec (1 + 1)).toNat := by revert low; decide
  unfold frameInstr
  dsimp only
  split
  case h_21 => exact congrArg (Instr.reservedClass · subtype t) BitVec.extractLsb'_append_eq_right
  all_goals omega

/-- The fields of a well-formed frame row are read as that row. -/
theorem frameInstr_frameParts {i : Instr} {p : FrameParts} (hw : i.wf = true) (hp : i.frameParts = some p) :
    frameInstr p = i := by
  cases i <;> simp only [Instr.frameParts, Option.some.injEq, reduceCtorEq] at hp <;> subst hp
  case ctrlOther => exact frameInstr_ctrlOther (Bool.and_eq_true_iff.mp hw).1 _
  case dataOther => exact frameInstr_dataOther (Bool.and_eq_true_iff.mp hw).1 _
  case reservedClass => exact frameInstr_reservedClass _ _ _
  all_goals rfl

/-- The frame rows are those that stand for a frame's fields. -/
theorem format_of_frameParts {i : Instr} {p : FrameParts} (hp : i.frameParts = some p) : i.format = .frame := by
  cases i <;> simp only [Instr.frameParts, reduceCtorEq] at hp <;> rfl

theorem decode_frameRow {i : Instr} {p : FrameParts} (hw : i.wf = true) (hp : i.frameParts = some p) :
    decode i.format (encode i) = .ok i := by
  rw [format_of_frameParts hp, Machine.encode_frame hp]
  simp only [decode, decodeFrame, splitFrame_of_bytes (Machine.frameParts_wf hp hw), frameInstr_frameParts hw hp]

/-- All that a wire frame can be decoded to (R100, R161). -/
theorem decodeFrame_cases {b : Bytes} {i : Instr} (h : decodeFrame b = .ok i) :
    ∃ p, splitFrame b = .ok p ∧ i = frameInstr p := by
  unfold decodeFrame at h
  split at h
  · exact ⟨_, ‹_›, (Except.ok.inj h).symm⟩
  · cases h

/-! ## Operands of the commands -/

/-- The 16-bit length field counts every length a payload may have (R81, R122, R133). -/
theorem rd16_le16_length {n : Nat} (h : n ≤ Config.maxPayload) :
    (rd16 ((BitVec.ofNat 16 n).extractLsb' 0 8) ((BitVec.ofNat 16 n).extractLsb' 8 8)).toNat = n := by
  have hn : n < 2 ^ 16 := Nat.lt_succ_of_le h
  rw [rd16_le16_bytes, BitVec.toNat_ofNat, Nat.mod_eq_of_lt hn]

/-- The number that two bytes give is one that the length field of a payload can hold. -/
theorem count_le_maxPayload (l0 l1 : Byte) : l0.toNat + 256 * l1.toNat ≤ Config.maxPayload := by
  have := l0.isLt
  have := l1.isLt
  simp only [Config.maxPayload]
  omega

/-- A payload that two bytes count has those bytes as its length field. -/
theorem le16_count {l0 l1 : Byte} {payload : Bytes} (h : payload.length = l0.toNat + 256 * l1.toNat) :
    le16 (BitVec.ofNat 16 payload.length) = [l0, l1] := by
  rw [h, ← rd16_toNat, BitVec.ofNat_toNat, BitVec.setWidth_eq, le16_rd16]

/-- All that READY's operands can be read as (R121). -/
theorem readyArgs_cases (rest : Bytes) :
    (∃ lo hi, rest = [lo, hi] ∧ readyArgs rest = .capacity (rd16 lo hi)) ∨
    (rest.length ≠ 2 ∧ readyArgs rest = .badLength rest) := by
  match rest with
  | [] | [_] | _ :: _ :: _ :: _ => exact .inr ⟨by simp, rfl⟩
  | [lo, hi] => exact .inl ⟨lo, hi, rfl, rfl⟩

/-- All that SEND's operands can be read as (R122). -/
theorem sendArgs_cases (rest : Bytes) :
    (∃ b0 opts t0 t1 l0 l1 payload, rest = b0 :: opts :: t0 :: t1 :: l0 :: l1 :: payload ∧
      payload.length = l0.toNat + 256 * l1.toNat ∧ sendArgs rest = .message b0 opts (rd16 t0 t1) payload) ∨
    (sendShaped rest = false ∧ sendArgs rest = .badLength rest) := by
  match rest with
  | [] | [_] | [_, _] | [_, _, _] | [_, _, _, _] | [_, _, _, _, _] => exact .inr ⟨rfl, rfl⟩
  | b0 :: opts :: t0 :: t1 :: l0 :: l1 :: payload =>
    by_cases h : payload.length = l0.toNat + 256 * l1.toNat
    · exact .inl ⟨b0, opts, t0, t1, l0, l1, payload, rfl, h, if_pos (h.trans (rd16_toNat l0 l1).symm)⟩
    · exact .inr ⟨beq_eq_false_iff_ne.mpr h, if_neg fun e => h (e.trans (rd16_toNat l0 l1))⟩

/-- All that CLOSE's and QUERY's operands can be read as (R123, R124). -/
theorem noArgs_cases (rest : Bytes) :
    (rest = [] ∧ noArgs rest = .exact) ∨ (rest ≠ [] ∧ noArgs rest = .badLength rest) := by
  match rest with
  | [] => exact .inl ⟨rfl, rfl⟩
  | _ :: _ => exact .inr ⟨nofun, rfl⟩

theorem readyArgs_bytes {a : ReadyArgs} (h : a.wf = true) : readyArgs a.bytes = a := by
  cases a with
  | capacity cap => exact congrArg ReadyArgs.capacity (rd16_le16_bytes cap)
  | badLength rest =>
    rcases readyArgs_cases rest with ⟨lo, hi, rfl, _⟩ | ⟨_, e⟩
    · cases h
    · exact e

theorem sendArgs_bytes {a : SendArgs} (h : a.wf = true) : sendArgs a.bytes = a := by
  cases a with
  | message b0 opts timeout payload =>
    refine (if_pos (rd16_le16_length (of_decide_eq_true h)).symm).trans ?_
    rw [rd16_le16_bytes]
    rfl
  | badLength rest =>
    rcases sendArgs_cases rest with ⟨b0, opts, t0, t1, l0, l1, payload, rfl, hl, _⟩ | ⟨_, e⟩
    · simp [SendArgs.wf, sendShaped, hl] at h
    · exact e

theorem noArgs_bytes {a : NoArgs} (h : a.wf = true) : noArgs a.bytes = a := by
  cases a with
  | exact => rfl
  | badLength rest =>
    rcases noArgs_cases rest with ⟨rfl, _⟩ | ⟨_, e⟩
    · cases h
    · exact e

/-- READY's operands as read are well formed and stand for the bytes read. -/
theorem bytes_readyArgs (rest : Bytes) : (readyArgs rest).wf = true ∧ (readyArgs rest).bytes = rest := by
  rcases readyArgs_cases rest with ⟨lo, hi, rfl, e⟩ | ⟨hl, e⟩ <;> rw [e]
  · exact ⟨rfl, le16_rd16 lo hi⟩
  · exact ⟨by simpa [ReadyArgs.wf] using hl, rfl⟩

/-- SEND's operands as read are well formed and stand for the bytes read. -/
theorem bytes_sendArgs (rest : Bytes) : (sendArgs rest).wf = true ∧ (sendArgs rest).bytes = rest := by
  rcases sendArgs_cases rest with ⟨b0, opts, t0, t1, l0, l1, payload, rfl, hl, e⟩ | ⟨hs, e⟩ <;> rw [e]
  · exact ⟨decide_eq_true (hl ▸ count_le_maxPayload l0 l1), by simp [SendArgs.bytes, le16_count hl]⟩
  · exact ⟨by simp [SendArgs.wf, hs], rfl⟩

/-- CLOSE's and QUERY's operands as read are well formed and stand for the bytes read. -/
theorem bytes_noArgs (rest : Bytes) : (noArgs rest).wf = true ∧ (noArgs rest).bytes = rest := by
  rcases noArgs_cases rest with ⟨rfl, e⟩ | ⟨hne, e⟩ <;> rw [e]
  · exact ⟨rfl, rfl⟩
  · exact ⟨by simpa [NoArgs.wf] using hne, rfl⟩

/-! ## Tags of one byte -/

theorem decode_ready (rest : Bytes) : decode .input (0x01 :: rest) = .ok (.ready (readyArgs rest)) := rfl

theorem decode_send (rest : Bytes) : decode .input (0x02 :: rest) = .ok (.send (sendArgs rest)) := rfl

theorem decode_close (rest : Bytes) : decode .input (0x03 :: rest) = .ok (.close (noArgs rest)) := rfl

theorem decode_query (rest : Bytes) : decode .input (0x04 :: rest) = .ok (.query (noArgs rest)) := rfl

/-! ## Tags with open low bits -/

/-- The low bits of a tag are read back. -/
theorem extract_low_openTag {h l : Nat} (high : BitVec h) (low : BitVec l) (hl : h + l = 8) :
    (openTag high low).extractLsb' 0 l = low := by
  apply BitVec.eq_of_toNat_eq
  rw [BitVec.extractLsb'_toNat, openTag_toNat high low hl, Nat.shiftRight_zero, Nat.mul_add_mod_self_right,
    Nat.mod_eq_of_lt low.isLt]

/-- A tag with a row's high bits is the row's tag for its own low bits. -/
theorem openTag_extract {h l : Nat} {high : BitVec h} {tag : Byte} (hl : h + l = 8) (e : tag.extractLsb' l h = high) :
    openTag high (tag.extractLsb' 0 l) = tag := by
  apply BitVec.eq_of_toNat_eq
  have quotient : tag.toNat / 2 ^ l < 2 ^ h := by
    refine Nat.div_lt_of_lt_mul ?_
    rw [← Nat.pow_add, Nat.add_comm, hl]
    exact tag.isLt
  rw [openTag_toNat _ _ hl, ← e, BitVec.extractLsb'_toNat, BitVec.extractLsb'_toNat, Nat.shiftRight_eq_div_pow,
    Nat.mod_eq_of_lt quotient, Nat.shiftRight_zero, Nat.div_add_mod']

/-- The tags from 0xC0 up are those whose two high bits are set. -/
theorem extract_high_of_large {tag : Byte} (h : 0xC0 ≤ tag.toNat) : tag.extractLsb' 6 2 = 0x3 := by
  have := tag.isLt
  apply BitVec.eq_of_toNat_eq
  simp only [BitVec.extractLsb'_toNat, Nat.shiftRight_eq_div_pow, BitVec.reduceToNat]
  omega

/-- A tag in the range that a row's high bits give is one of the row's. -/
theorem exists_openTag {h l : Nat} (high : BitVec h) (hl : h + l = 8) {tag : Byte}
    (lo : high.toNat * 2 ^ l ≤ tag.toNat) (hi : tag.toNat < (high.toNat + 1) * 2 ^ l) :
    ∃ low : BitVec l, tag = openTag high low := by
  refine ⟨BitVec.ofNat l (tag.toNat - high.toNat * 2 ^ l), BitVec.eq_of_toNat_eq ?_⟩
  rw [Nat.add_mul, Nat.one_mul] at hi
  rw [openTag_toNat high _ hl, BitVec.toNat_ofNat, Nat.mod_eq_of_lt (by omega)]
  omega

/-- The tags of the rows that leave low bits open are decoded to those rows (R125, R129). -/
structure OpenTagsDecode (rest : Bytes) : Prop where
  cmdIllegal06 : ∀ low, decode .input (openTag (0x03 : BitVec 7) low :: rest) = .ok (.cmdIllegal06 low rest)
  cmdIllegal08 : ∀ low, decode .input (openTag (0x01 : BitVec 5) low :: rest) = .ok (.cmdIllegal08 low rest)
  cmdIllegal10 : ∀ low, decode .input (openTag (0x1 : BitVec 4) low :: rest) = .ok (.cmdIllegal10 low rest)
  cmdIllegal20 : ∀ low, decode .input (openTag (0x1 : BitVec 3) low :: rest) = .ok (.cmdIllegal20 low rest)
  cmdIllegal40 : ∀ low, decode .input (openTag (0x1 : BitVec 2) low :: rest) = .ok (.cmdIllegal40 low rest)
  inputReserved84 : ∀ low, decode .input (openTag (0x21 : BitVec 6) low :: rest) = .ok (.inputReserved84 low rest)
  inputReserved88 : ∀ low, decode .input (openTag (0x11 : BitVec 5) low :: rest) = .ok (.inputReserved88 low rest)
  inputReserved90 : ∀ low, decode .input (openTag (0x9 : BitVec 4) low :: rest) = .ok (.inputReserved90 low rest)
  inputReservedA0 : ∀ low, decode .input (openTag (0x5 : BitVec 3) low :: rest) = .ok (.inputReservedA0 low rest)
  inputReservedC0 : ∀ low, decode .input (openTag (0x3 : BitVec 2) low :: rest) = .ok (.inputReservedC0 low rest)

/-- The tag's number is a row's high bits above `low`, so it fails every earlier check of the decoder. -/
theorem openTags_decode (rest : Bytes) : OpenTagsDecode rest := by
  constructor
  all_goals
    intro low
    have := low.isLt
    simp only [decode, decodeInput, ← BitVec.toNat_inj, BitVec.extractLsb'_toNat, Nat.shiftRight_eq_div_pow,
      openTag_toNat, extract_low_openTag, BitVec.reduceToNat, Nat.reducePow, Nat.reduceMul, Nat.reduceAdd]
    simp (disch := omega) only [if_neg, if_pos]

/-! ## Output events -/

theorem decode_deliver {payload : Bytes} (h : payload.length ≤ Config.maxPayload) (b0 seq flags : Byte) :
    decode .output (encode (.deliver b0 seq flags payload)) = .ok (.deliver b0 seq flags payload) :=
  if_pos (rd16_le16_length h).symm

/-- All the instructions an output event decodes to, each with its bytes (R130). -/
theorem decodeOutput_cases {b : Bytes} {i : Instr} (h : decode .output b = .ok i) :
    (∃ frame, frameShaped frame = true ∧ b = 0xC0 :: frame ∧ i = .txWrite frame) ∨
    (∃ op status detail, b = [0xC1, op, status, detail] ∧ i = .cmdDone op status detail) ∨
    (∃ b0 seq flags l0 l1 payload, payload.length = l0.toNat + 256 * l1.toNat ∧
      b = 0xC2 :: b0 :: seq :: flags :: l0 :: l1 :: payload ∧ i = .deliver b0 seq flags payload) ∨
    (∃ code arg, b = [0xC3, code, arg] ∧ i = .log code arg) ∨ (∃ code, b = [0xC4, code] ∧ i = .fatal code) ∨
    (b = [0xC5] ∧ i = .release) ∨
    (∃ snapshot, snapshot.length = 26 ∧ b = 0xC6 :: snapshot ∧ i = .queryResp snapshot) := by
  cases b with
  | nil => cases h
  | cons tag rest =>
    have inj {x : Instr} (e : (.ok x : Except Reject Instr) = .ok i) : i = x := (Except.ok.inj e).symm
    unfold decode decodeOutput at h
    rcases ite_ok h with ⟨rfl, h⟩ | ⟨_, h⟩
    · rcases ite_ok h with ⟨shaped, h⟩ | ⟨_, h⟩
      · exact .inl ⟨rest, shaped, rfl, inj h⟩
      · cases h
    refine .inr ?_
    rcases ite_ok h with ⟨rfl, h⟩ | ⟨_, h⟩
    · split at h
      · exact .inl ⟨_, _, _, rfl, inj h⟩
      · cases h
    refine .inr ?_
    rcases ite_ok h with ⟨rfl, h⟩ | ⟨_, h⟩
    · split at h
      · rcases ite_ok h with ⟨count, h⟩ | ⟨_, h⟩
        · exact .inl ⟨_, _, _, _, _, _, count.trans (rd16_toNat ..), rfl, inj h⟩
        · cases h
      · cases h
    refine .inr ?_
    rcases ite_ok h with ⟨rfl, h⟩ | ⟨_, h⟩
    · split at h
      · exact .inl ⟨_, _, rfl, inj h⟩
      · cases h
    refine .inr ?_
    rcases ite_ok h with ⟨rfl, h⟩ | ⟨_, h⟩
    · split at h
      · exact .inl ⟨_, rfl, inj h⟩
      · cases h
    refine .inr ?_
    rcases ite_ok h with ⟨rfl, h⟩ | ⟨_, h⟩
    · rcases ite_ok h with ⟨empty, h⟩ | ⟨_, h⟩
      · exact .inl ⟨by rw [List.isEmpty_iff.mp empty], inj h⟩
      · cases h
    refine .inr ?_
    rcases ite_ok h with ⟨rfl, h⟩ | ⟨_, h⟩
    · rcases ite_ok h with ⟨length, h⟩ | ⟨_, h⟩
      · exact ⟨rest, length, rfl, inj h⟩
      · cases h
    · cases h

/-! ## The statements -/

/-- Settles O2: a frame row's bytes split back into its fields (`decode_frameRow`), a command's operands are read back
from their bytes, an open tag's low bits from the tag (`openTags_decode`), and a length field counts its payload. -/
theorem decodeEncode : Obligations.DecodeEncode := by
  intro i hw
  cases row : i.frameParts with
  | some p => exact decode_frameRow hw row
  | none =>
    cases i with
    | ready a => exact (decode_ready _).trans (by rw [readyArgs_bytes hw])
    | send a => exact (decode_send _).trans (by rw [sendArgs_bytes hw])
    | close a => exact (decode_close _).trans (by rw [noArgs_bytes hw])
    | query a => exact (decode_query _).trans (by rw [noArgs_bytes hw])
    | cmdIllegal06 low rest => exact (openTags_decode rest).cmdIllegal06 low
    | cmdIllegal08 low rest => exact (openTags_decode rest).cmdIllegal08 low
    | cmdIllegal10 low rest => exact (openTags_decode rest).cmdIllegal10 low
    | cmdIllegal20 low rest => exact (openTags_decode rest).cmdIllegal20 low
    | cmdIllegal40 low rest => exact (openTags_decode rest).cmdIllegal40 low
    | inputReserved84 low rest => exact (openTags_decode rest).inputReserved84 low
    | inputReserved88 low rest => exact (openTags_decode rest).inputReserved88 low
    | inputReserved90 low rest => exact (openTags_decode rest).inputReserved90 low
    | inputReservedA0 low rest => exact (openTags_decode rest).inputReservedA0 low
    | inputReservedC0 low rest => exact (openTags_decode rest).inputReservedC0 low
    | txWrite frame => exact if_pos hw
    | deliver b0 seq flags payload => exact decode_deliver (of_decide_eq_true hw) b0 seq flags
    | queryResp snapshot => exact if_pos (beq_iff_eq.mp hw)
    | cmdIllegal00 | cmdIllegal05 | rxNotify | writeDone | tick | linkDown | cmdDone | log | fatal | release => rfl
    | _ => cases row

/-- What a frame decodes to: the row of its fields, whose bytes they are. -/
theorem encode_decodeFrame {b : Bytes} {i : Instr} (h : decode .frame b = .ok i) :
    i.wf = true ∧ i.format = .frame ∧ encode i = b := by
  obtain ⟨p, fields, rfl⟩ := decodeFrame_cases h
  have row := frameParts_frameInstr p
  exact ⟨(frameInstr_wf p).trans (splitFrame_wf fields), format_of_frameParts row,
    (Machine.encode_frame row).trans (splitFrame_bytes fields)⟩

/-- What an input transaction decodes to: the row of its tag, with operands that stand for the bytes after it. -/
theorem encode_decodeInput {b : Bytes} {i : Instr} (h : decode .input b = .ok i) :
    i.wf = true ∧ i.format = .input ∧ encode i = b := by
  obtain ⟨tag, rest, rfl, hi⟩ := decodeInput_cases h
  have opened {k l : Nat} {high : BitVec k} (hl : k + l = 8) (e : tag.extractLsb' l k = high) :
      openTag high (tag.extractLsb' 0 l) :: rest = tag :: rest := by rw [openTag_extract hl e]
  rcases hi with ⟨rfl, rfl⟩ | ⟨rfl, rfl⟩ | ⟨rfl, rfl⟩ | ⟨rfl, rfl⟩ | ⟨rfl, rfl⟩ | ⟨rfl, rfl⟩ | ⟨e, rfl⟩ | ⟨e, rfl⟩ |
    ⟨e, rfl⟩ | ⟨e, rfl⟩ | ⟨e, rfl⟩ | ⟨rfl, rfl⟩ | ⟨rfl, st, rfl, rfl⟩ | ⟨rfl, rfl, rfl⟩ | ⟨rfl, rfl, rfl⟩ | ⟨e, rfl⟩ |
    ⟨e, rfl⟩ | ⟨e, rfl⟩ | ⟨e, rfl⟩ | ⟨large, rfl⟩
  · exact ⟨rfl, rfl, rfl⟩
  · obtain ⟨hw, hb⟩ := bytes_readyArgs rest
    exact ⟨hw, rfl, congrArg (0x01 :: ·) hb⟩
  · obtain ⟨hw, hb⟩ := bytes_sendArgs rest
    exact ⟨hw, rfl, congrArg (0x02 :: ·) hb⟩
  · obtain ⟨hw, hb⟩ := bytes_noArgs rest
    exact ⟨hw, rfl, congrArg (0x03 :: ·) hb⟩
  · obtain ⟨hw, hb⟩ := bytes_noArgs rest
    exact ⟨hw, rfl, congrArg (0x04 :: ·) hb⟩
  · exact ⟨rfl, rfl, rfl⟩
  iterate 5 exact ⟨rfl, rfl, opened rfl e⟩
  iterate 4 exact ⟨rfl, rfl, rfl⟩
  iterate 4 exact ⟨rfl, rfl, opened rfl e⟩
  · exact ⟨rfl, rfl, opened rfl (extract_high_of_large large)⟩

/-- What an output event decodes to: the row of its tag, with the bytes after it. -/
theorem encode_decodeOutput {b : Bytes} {i : Instr} (h : decode .output b = .ok i) :
    i.wf = true ∧ i.format = .output ∧ encode i = b := by
  rcases decodeOutput_cases h with ⟨frame, shaped, rfl, rfl⟩ | ⟨_, _, _, rfl, rfl⟩ |
    ⟨b0, seq, flags, l0, l1, payload, count, rfl, rfl⟩ | ⟨_, _, rfl, rfl⟩ | ⟨_, rfl, rfl⟩ | ⟨rfl, rfl⟩ |
    ⟨snapshot, length, rfl, rfl⟩
  case inl => exact ⟨shaped, rfl, rfl⟩
  case inr.inr.inl =>
    exact ⟨decide_eq_true (count ▸ count_le_maxPayload l0 l1), rfl, by simp [encode, le16_count count]⟩
  case inr.inr.inr.inr.inr.inr => exact ⟨beq_iff_eq.mpr length, rfl, rfl⟩
  all_goals exact ⟨rfl, rfl, rfl⟩

/-- Settles O3: format by format. -/
theorem encodeDecode : Obligations.EncodeDecode := by
  intro f b i h
  cases f with
  | frame => exact encode_decodeFrame h
  | input => exact encode_decodeInput h
  | output => exact encode_decodeOutput h

/-- Settles O1: the thirteen words are decoded by evaluation. -/
theorem decodeWrittenWords : Obligations.DecodeWrittenWords :=
  ⟨rfl, rfl, rfl, rfl, rfl, rfl, rfl, rfl, rfl, rfl, rfl, rfl, rfl⟩

end Sys2Proof
end

section
/-! PROOFS. The CMD port's answers to illegal commands and to QUERY (R125, R291, R298), and the transactions that
have no step (R129, R290, R315). -/

namespace Sys2Proof.Machine

/-! ## Fields as arithmetic -/

/-- A tag with open low bits, written as the number of the row's first tag plus those bits. -/
theorem openTag_eq {h l : Nat} (high : BitVec h) (low : BitVec l) (hl : h + l = 8) :
    openTag high low = BitVec.ofNat 8 (high.toNat * 2 ^ l + low.toNat) := by
  rw [← openTag_toNat high low hl, BitVec.ofNat_toNat, BitVec.setWidth_eq]

/-- The length field of a payload is the two bytes of its length (R13). -/
theorem le16_ofNat (n : Nat) : le16 (BitVec.ofNat 16 n) = twoBytes n := by
  rw [le16_eq, twoBytes, BitVec.toNat_ofNat]
  simp only [List.cons.injEq, and_true]
  constructor <;> apply BitVec.eq_of_toNat_eq <;> simp only [BitVec.toNat_ofNat] <;> omega

theorem toNat_append_add {m n : Nat} (x : BitVec m) (y : BitVec n) : (x ++ y).toNat = x.toNat * 2 ^ n + y.toNat := by
  rw [BitVec.toNat_append, ← Nat.shiftLeft_add_eq_or_of_lt y.isLt, Nat.shiftLeft_eq]

/-! ## Illegal commands -/

/-- A CMD-port transaction with an unassigned tag is decoded to an instruction that only answers ILLEGAL_COMMAND with
that tag (R125, R291). -/
theorem unassigned_answered {tag : Byte} (h : tag = 0x00 ∨ 5 ≤ tag.toNat ∧ tag.toNat ≤ 0x7F) (rest : Bytes) :
    ∃ i, decode .input (tag :: rest) = .ok i ∧ ∀ s, exec i s = .next (illegalCommand tag s) := by
  have rows := openTags_decode rest
  rcases h with rfl | ⟨lo, hi⟩
  · exact ⟨.cmdIllegal00 rest, rfl, fun _ => rfl⟩
  have row : tag.toNat = 0x05 ∨ (0x06 ≤ tag.toNat ∧ tag.toNat < 0x08) ∨ (0x08 ≤ tag.toNat ∧ tag.toNat < 0x10) ∨
      (0x10 ≤ tag.toNat ∧ tag.toNat < 0x20) ∨ (0x20 ≤ tag.toNat ∧ tag.toNat < 0x40) ∨
      (0x40 ≤ tag.toNat ∧ tag.toNat < 0x80) := by omega
  rcases row with h | ⟨lo, hi⟩ | ⟨lo, hi⟩ | ⟨lo, hi⟩ | ⟨lo, hi⟩ | ⟨lo, hi⟩
  · obtain rfl : tag = 0x05 := BitVec.eq_of_toNat_eq h
    exact ⟨.cmdIllegal05 rest, rfl, fun _ => rfl⟩
  · obtain ⟨low, rfl⟩ := exists_openTag (l := 1) (0x03 : BitVec 7) rfl lo hi
    exact ⟨_, rows.cmdIllegal06 low, fun _ => rfl⟩
  · obtain ⟨low, rfl⟩ := exists_openTag (l := 3) (0x01 : BitVec 5) rfl lo hi
    exact ⟨_, rows.cmdIllegal08 low, fun _ => rfl⟩
  · obtain ⟨low, rfl⟩ := exists_openTag (l := 4) (0x1 : BitVec 4) rfl lo hi
    exact ⟨_, rows.cmdIllegal10 low, fun _ => rfl⟩
  · obtain ⟨low, rfl⟩ := exists_openTag (l := 5) (0x1 : BitVec 3) rfl lo hi
    exact ⟨_, rows.cmdIllegal20 low, fun _ => rfl⟩
  · obtain ⟨low, rfl⟩ := exists_openTag (l := 6) (0x1 : BitVec 2) rfl lo hi
    exact ⟨_, rows.cmdIllegal40 low, fun _ => rfl⟩

/-- READY with a number of bytes that is not 2 (R121). -/
theorem readyArgs_badLength {rest : Bytes} (h : rest.length ≠ 2) : readyArgs rest = .badLength rest := by
  rcases readyArgs_cases rest with ⟨lo, hi, rfl, _⟩ | ⟨_, e⟩
  · exact absurd rfl h
  · exact e

/-- SEND whose length is not the one its bytes 5 and 6 give, a byte that is not there counting as 0 (R122). -/
theorem sendArgs_badLength {rest : Bytes}
    (h : rest.length ≠ 6 + ((rest.getD 4 0).toNat + 256 * (rest.getD 5 0).toNat)) :
    sendArgs rest = .badLength rest := by
  rcases sendArgs_cases rest with ⟨b0, opts, t0, t1, l0, l1, payload, rfl, hl, _⟩ | ⟨_, e⟩
  · refine absurd ?_ h
    simp only [List.length_cons, List.getD_cons_succ, List.getD_cons_zero, hl]
    omega
  · exact e

/-- CLOSE or QUERY with a byte after the tag (R123, R124). -/
theorem noArgs_badLength {rest : Bytes} (h : rest ≠ []) : noArgs rest = .badLength rest := by
  rcases noArgs_cases rest with ⟨e, _⟩ | ⟨_, e⟩
  · exact absurd e h
  · exact e

/-- Settles O25: an unassigned tag has a row that answers it (`unassigned_answered`), and the operands of a wrong length
are read as such, which the command's meaning answers. -/
theorem illegalCommandsAnswered : Obligations.IllegalCommandsAnswered := by
  intro tag rest s h
  rcases h with h | h | ⟨rfl, h⟩ | ⟨rfl, h⟩ | ⟨rfl, h⟩ | ⟨rfl, h⟩
  · obtain ⟨i, hd, he⟩ := unassigned_answered (.inl h) rest
    exact ⟨i, hd, he s⟩
  · obtain ⟨i, hd, he⟩ := unassigned_answered (.inr h) rest
    exact ⟨i, hd, he s⟩
  · exact ⟨_, (decode_ready rest).trans (by rw [readyArgs_badLength h]), rfl⟩
  · exact ⟨_, (decode_send rest).trans (by rw [sendArgs_badLength h]), rfl⟩
  · exact ⟨_, (decode_close rest).trans (by rw [noArgs_badLength h]), rfl⟩
  · exact ⟨_, (decode_query rest).trans (by rw [noArgs_badLength h]), rfl⟩

/-- The answer to an unassigned tag with open low bits, the tag as a number. -/
theorem illegalCommand_openTag {h l : Nat} (high : BitVec h) (low : BitVec l) (hl : h + l = 8) (s : State) :
    illegalCommand (openTag high low) s =
      { s with out := s.out ++ [[0xC1, BitVec.ofNat 8 (high.toNat * 2 ^ l + low.toNat), 0x21, 0x00]] } := by
  rw [openTag_eq high low hl]
  rfl

/-- Settles O26: each row answers its own tag, whose number is the row's first tag plus the low bits. -/
theorem cmdIllegalRows : Obligations.CmdIllegalRows := fun _ s =>
  ⟨rfl, rfl, fun low => congrArg Host.Outcome.next (illegalCommand_openTag (0x03 : BitVec 7) low rfl s),
    fun low => congrArg Host.Outcome.next (illegalCommand_openTag (0x01 : BitVec 5) low rfl s),
    fun low => congrArg Host.Outcome.next (illegalCommand_openTag (0x1 : BitVec 4) low rfl s),
    fun low => congrArg Host.Outcome.next (illegalCommand_openTag (0x1 : BitVec 3) low rfl s),
    fun low => congrArg Host.Outcome.next (illegalCommand_openTag (0x1 : BitVec 2) low rfl s)⟩

/-! ## Transactions that have no step -/

/-- A transaction with a reserved tag is decoded to an instruction that is refused by that tag (R129, R290, R315). -/
theorem reserved_refused {tag : Byte} (h : 0x84 ≤ tag.toNat) (rest : Bytes) :
    ∃ i, decode .input (tag :: rest) = .ok i ∧ ∀ s, exec i s = .refused (.reservedTag tag) := by
  have rows := openTags_decode rest
  have row : (0x84 ≤ tag.toNat ∧ tag.toNat < 0x88) ∨ (0x88 ≤ tag.toNat ∧ tag.toNat < 0x90) ∨
      (0x90 ≤ tag.toNat ∧ tag.toNat < 0xA0) ∨ (0xA0 ≤ tag.toNat ∧ tag.toNat < 0xC0) ∨
      (0xC0 ≤ tag.toNat ∧ tag.toNat < 0x100) := by omega
  rcases row with ⟨lo, hi⟩ | ⟨lo, hi⟩ | ⟨lo, hi⟩ | ⟨lo, hi⟩ | ⟨lo, hi⟩
  · obtain ⟨low, rfl⟩ := exists_openTag (l := 2) (0x21 : BitVec 6) rfl lo hi
    exact ⟨_, rows.inputReserved84 low, fun _ => rfl⟩
  · obtain ⟨low, rfl⟩ := exists_openTag (l := 3) (0x11 : BitVec 5) rfl lo hi
    exact ⟨_, rows.inputReserved88 low, fun _ => rfl⟩
  · obtain ⟨low, rfl⟩ := exists_openTag (l := 4) (0x9 : BitVec 4) rfl lo hi
    exact ⟨_, rows.inputReserved90 low, fun _ => rfl⟩
  · obtain ⟨low, rfl⟩ := exists_openTag (l := 5) (0x5 : BitVec 3) rfl lo hi
    exact ⟨_, rows.inputReservedA0 low, fun _ => rfl⟩
  · obtain ⟨low, rfl⟩ := exists_openTag (l := 6) (0x3 : BitVec 2) rfl lo hi
    exact ⟨_, rows.inputReservedC0 low, fun _ => rfl⟩

/-- Bytes that decode to nothing are refused (R129). -/
theorem transact_rejected {t : Bytes} {r : Reject} (h : decode .input t = .error r) (s : State) :
    transact t s = .refused (refusalOf r) := by
  simp only [transact, h]

theorem decode_writeDone_malformed {rest : Bytes} (h : rest.length ≠ 1) :
    decode .input (0x81 :: rest) = .error (.malformedEvent 0x81) := by
  match rest with
  | [] => rfl
  | [_] => exact absurd rfl h
  | _ :: _ :: _ => rfl

theorem decode_tick_malformed {rest : Bytes} (h : rest ≠ []) :
    decode .input (0x82 :: rest) = .error (.malformedEvent 0x82) :=
  if_neg fun e => h (List.isEmpty_iff.mp e)

theorem decode_linkDown_malformed {rest : Bytes} (h : rest ≠ []) :
    decode .input (0x83 :: rest) = .error (.malformedEvent 0x83) :=
  if_neg fun e => h (List.isEmpty_iff.mp e)

/-- Settles O27: the refusal names the tag, whose number is the row's first tag plus the low bits (`openTag_eq`). -/
theorem reservedTagsRefused : Obligations.ReservedTagsRefused := fun _ _ =>
  have refused {t u : Byte} (h : t = u) :
      (.refused (.reservedTag t) : Host.Outcome State Fault Refusal) = .refused (.reservedTag u) := by rw [h]
  ⟨fun low => refused (openTag_eq (0x21 : BitVec 6) low rfl), fun low => refused (openTag_eq (0x11 : BitVec 5) low rfl),
    fun low => refused (openTag_eq (0x9 : BitVec 4) low rfl), fun low => refused (openTag_eq (0x5 : BitVec 3) low rfl),
    fun low => refused (openTag_eq (0x3 : BitVec 2) low rfl)⟩

/-- Settles O28: a reserved tag's row is refused (`reserved_refused`), and an event of a wrong length decodes to
nothing. -/
theorem illFormedEventsRefused : Obligations.IllFormedEventsRefused := by
  refine ⟨rfl, fun tag rest s => ⟨fun h => ?_, fun h hl => ?_, fun h hne => ?_⟩⟩
  · obtain ⟨i, hd, he⟩ := reserved_refused h rest
    simp only [transact, hd, he, thenArbiter]
  · subst h
    exact transact_rejected (decode_writeDone_malformed hl) s
  · rcases h with rfl | rfl
    · exact transact_rejected (decode_tick_malformed hne) s
    · exact transact_rejected (decode_linkDown_malformed hne) s

/-! ## QUERY and the pseudo-instructions -/

@[simp] theorem bit_toNat (b : Bool) : (bit b).toNat = b.toNat := by
  cases b <;> rfl

/-- The codes of SESS as numbers (R33). -/
theorem sessCode_toNat (x : Sess) :
    (sessCode x).toNat = match x with | .connecting => 0 | .ready => 1 | .closed => 2 := by
  cases x <;> rfl

/-- The codes of TX_STATE as numbers (R39). -/
theorem txStateCode_toNat (x : TxState) :
    (txStateCode x).toNat = match x with | .idle => 0 | .issue => 1 | .writeWait => 2 | .ackWait => 3 := by
  cases x <;> rfl

/-- The codes of PORT_OWNER as numbers (R45). -/
theorem ownerCode_toNat (x : PortOwner) : (ownerCode x).toNat = match x with | .send => 0 | .autoAck => 1 := by
  cases x <;> rfl

/-- The codes of a frame class as numbers (R103). -/
theorem classCode_toNat (x : FrameClass) : x.code.toNat = match x with | .control => 0 | .data => 1 := by
  cases x <;> rfl

/-- Snapshot byte 1 as arithmetic (R137). -/
theorem snapStatus_eq (s : State) :
    snapStatus s = BitVec.ofNat 8
      ((sessCode s.sess).toNat + 4 * s.linkOpen.toNat + 8 * s.fatal.toNat + 16 * s.raActive.toNat +
        32 * s.portBusy.toNat + 64 * (ownerCode s.portOwner).toNat + 128 * s.pendValid.toNat) := by
  refine BitVec.eq_of_toNat_eq (.trans ?_ (Nat.mod_eq_of_lt ?_).symm)
  · simp only [snapStatus, toNat_append_add, bit_toNat]
    omega
  · have := (sessCode s.sess).isLt
    have := (ownerCode s.portOwner).isLt
    have := s.linkOpen.toNat_le
    have := s.fatal.toNat_le
    have := s.raActive.toNat_le
    have := s.portBusy.toNat_le
    have := s.pendValid.toNat_le
    omega

/-- Snapshot byte 7 as arithmetic (R137). -/
theorem snapTx_eq (s : State) :
    snapTx s = BitVec.ofNat 8
      ((txStateCode s.txState).toNat + 4 * s.txAckReq.toNat + 8 * s.txCs.toNat + 16 * s.txLast.toNat +
        32 * s.pendAcked.toNat) := by
  refine BitVec.eq_of_toNat_eq (.trans ?_ (Nat.mod_eq_of_lt ?_).symm)
  · simp only [snapTx, toNat_append_add, bit_toNat, BitVec.reduceToNat]
    omega
  · have := (txStateCode s.txState).isLt
    have := s.txAckReq.toNat_le
    have := s.txCs.toNat_le
    have := s.txLast.toNat_le
    have := s.pendAcked.toNat_le
    omega

/-- Byte 26 counts the entries of ACKQ where a byte can (R137). -/
theorem snapAckqCount_toNat {n : Nat} (h : n < 256) : (snapAckqCount n).toNat = n := by
  rw [snapAckqCount, if_pos h, BitVec.toNat_ofNat, Nat.mod_eq_of_lt h]

/-- Settles O24: the answer is the snapshot (R298), its packed bytes as arithmetic (`snapStatus_eq`, `snapTx_eq`). -/
theorem queryRule : Obligations.QueryRule := by
  refine fun s => ⟨⟨snapAckqCount s.ackq.length, ?_, snapAckqCount_toNat⟩, fun _ => rfl⟩
  have answered : exec (.query .exact) s = .next { s with out := s.out ++ [0xC6 :: snapshot s] } := rfl
  rw [answered]
  simp only [snapshot, snapStatus_eq, snapTx_eq, packByte0_eq, sessCode_toNat, txStateCode_toNat, ownerCode_toNat,
    classCode_toNat, le16_eq]
  rfl

/-- Settles O60: both are SENDs of options 3 and timeout 0, to Control/7 and Data/19; L counts the payload. -/
theorem pseudoInstructions : Obligations.PseudoInstructions := by
  refine ⟨rfl, fun bytes => ?_⟩
  rw [← le16_ofNat]
  rfl

end Sys2Proof.Machine
end

section
/-! PROOFS. What a listening block does with one unfragmented frame outside a reassembly: every frame but a
Control/ACK is delivered verbatim (R195, R261, R263, R300). -/

namespace Sys2Proof.Machine

/-- Every message but a Control/ACK is delivered (R261). -/
theorem classify_delivers {m : Message} (h : ¬(m.cls = .control ∧ m.subtype = ackSubtype)) (s : State) :
    classify m s = .ok (emit (deliverEvent (packByte0 m.cls.code m.subtype) m.seq m.flags m.payload) s) := by
  rw [classify, if_neg h, deliverMessage, emitDeliver_event]

theorem finishMessage_delivers {m : Message} (h : ¬(m.cls = .control ∧ m.subtype = ackSubtype)) (s : State) :
    finishMessage m s =
      oweMessageAck m (emit (deliverEvent (packByte0 m.cls.code m.subtype) m.seq m.flags m.payload) s) := by
  simp only [finishMessage, classify_delivers h]

/-- The sequences that a Data frame with its ACK flag set adds to ACKQ (R240). -/
def owed (cls : FrameClass) (flags seq : Byte) : Bytes := if cls = .data ∧ ackFlag flags = true then [seq] else []

/-- Of a frame that is a whole message, one of the two policies owes its sequence: PER_FRAME on acceptance, PER_DELIVERY
on delivery (R240, R241). -/
theorem frameOwes_append_messageOwes (f : Frame) (s : State) :
    frameOwes f s ++ messageOwes (wholeMessage f) s = owed f.cls f.flags f.seq := by
  unfold frameOwes messageOwes owed wholeMessage
  cases s.params.ackPolicy <;> simp

/-- The state after an unfragmented frame has been delivered (R195, R212, R240, R261). -/
def deliveredFrame (b0 : Byte) (owes : Bytes) (t : FrameTail) (s : State) : State :=
  { s with
    rxExp := nextExpected s t.seq
    ackq := s.ackq ++ owes
    out := s.out ++ [deliverEvent b0 t.seq t.flags t.payload] }

/-- The frame reaches CLASSIFY as a whole message: the block listens, no reassembly is open, and the frame is intact,
unfragmented and of an expected sequence (R300). -/
structure Heard (t : FrameTail) (s : State) : Prop where
  listens : listening s = true
  no_reassembly : s.raActive = false
  intact : intact t
  unfragmented : fragFlag t.flags = false
  in_sequence : s.rxExp ≤ t.seq

/-- A heard frame that is no Control/ACK is delivered verbatim (R195, R261, R300). -/
theorem notifyFrame_delivered {cls : FrameClass} {subtype : BitVec 6} {t : FrameTail} {s : State} (h : Heard t s)
    (hne : ¬(cls = .control ∧ subtype = ackSubtype)) :
    notifyFrame ⟨cls.code, subtype, t⟩ s =
      .next (deliveredFrame (packByte0 cls.code subtype) (owed cls t.flags t.seq) t s) := by
  rw [notifyFrame_whole h.listens h.no_reassembly h.intact h.unfragmented h.in_sequence,
    finishMessage_delivers hne, oweMessageAck_eq, oweFrameAck_eq, deliveredFrame,
    ← frameOwes_append_messageOwes ⟨cls, subtype, t.flags, t.seq, t.payload⟩ s, ← List.append_assoc]
  rfl

/-- A Control frame that is no ACK is delivered and owes nothing (R241, R261). -/
theorem notifyFrame_control {subtype : BitVec 6} {t : FrameTail} {s : State} (h : Heard t s)
    (hne : subtype ≠ ackSubtype) :
    notifyFrame ⟨0, subtype, t⟩ s = .next { s with
      rxExp := nextExpected s t.seq
      out := s.out ++ [deliverEvent (BitVec.ofNat 8 (4 * subtype.toNat)) t.seq t.flags t.payload] } := by
  have row := notifyFrame_delivered (cls := .control) h fun e => hne e.2
  rw [packByte0_eq, deliveredFrame, show owed .control t.flags t.seq = [] from rfl, List.append_nil] at row
  rw [← Nat.zero_add (4 * subtype.toNat)]
  exact row

/-- A Data frame is delivered, and owes an ACK where it asks for one (R240, R261). -/
theorem notifyFrame_data {t : FrameTail} {s : State} (h : Heard t s) (subtype : BitVec 6) :
    notifyFrame ⟨1, subtype, t⟩ s = .next { s with
      rxExp := nextExpected s t.seq
      ackq := s.ackq ++ if t.flags.getLsbD 3 then [t.seq] else []
      out := s.out ++ [deliverEvent (BitVec.ofNat 8 (1 + 4 * subtype.toNat)) t.seq t.flags t.payload] } := by
  have row := notifyFrame_delivered (cls := .data) (subtype := subtype) h fun e => nomatch e.1
  have owes : owed .data t.flags t.seq = if t.flags.getLsbD 3 then [t.seq] else [] := by simp [owed, ackFlag]
  rw [packByte0_eq, deliveredFrame, owes] at row
  exact row

/-- Settles O35: each row is the notification of its subtype's frame, which is not 0 (`notifyFrame_control`). -/
theorem controlMessagesDelivered : Obligations.ControlMessagesDelivered := by
  intro t s hs hf ha hi hg hq
  have heard : Heard t s := ⟨listening_of hs hf, ha, hi, hg, hq⟩
  exact ⟨notifyFrame_control (subtype := 1) heard (by decide), notifyFrame_control (subtype := 2) heard (by decide),
    notifyFrame_control (subtype := 3) heard (by decide), notifyFrame_control (subtype := 4) heard (by decide),
    notifyFrame_control (subtype := 5) heard (by decide), notifyFrame_control (subtype := 6) heard (by decide),
    notifyFrame_control (subtype := 7) heard (by decide), notifyFrame_control (subtype := 8) heard (by decide),
    notifyFrame_control (subtype := 9) heard (by decide),
    fun subtype h => notifyFrame_control heard fun e => absurd (e ▸ h) (by decide)⟩

/-- Settles O36: each row is the notification of its subtype's frame (`notifyFrame_data`). -/
theorem dataMessagesDelivered : Obligations.DataMessagesDelivered := by
  intro t s hs hf ha hi hg hq
  have delivered := notifyFrame_data ⟨listening_of hs hf, ha, hi, hg, hq⟩
  exact ⟨delivered 6, delivered 7, delivered 8, delivered 15, delivered 16, delivered 17, delivered 18, delivered 19,
    delivered⟩

/-- The bytes of a frame without a checksum, written out (R100). -/
theorem plain_bytes (b0 flags seq : Byte) (p : Bytes) :
    (FrameParts.mk (classField b0) (subtypeField b0) ⟨flags, seq, p, none⟩).bytes =
      [b0, flags, seq, BitVec.ofNat 8 p.length] ++ p := by
  simp [FrameParts.bytes]

theorem plain_wf {flags seq : Byte} {p : Bytes} (hp : p.length ≤ 255) (hcs : flags.getLsbD 1 = false) :
    FrameTail.wf ⟨flags, seq, p, none⟩ = true := by
  simp only [FrameTail.wf, Bool.and_eq_true, decide_eq_true_eq, beq_iff_eq]
  exact ⟨hp, hcs.symm⟩

/-- A class field that names a class is that class's code (R103). -/
theorem eq_code_of_frameClass {field : BitVec 2} {cls : FrameClass} (h : frameClass field = some cls) :
    field = cls.code := by
  revert field
  cases cls <;> decide

/-- The class of a class field that is not reserved, as arithmetic (R103). -/
theorem classField_of_lt {b0 : Byte} (h : b0.toNat % 4 < 2) :
    ∃ cls : FrameClass, classField b0 = cls.code ∧ (cls = .data ↔ b0.toNat % 4 = 1) := by
  refine ⟨_, eq_code_of_frameClass (frameClass_of_lt h), ?_⟩
  split <;> simp <;> omega

/-- Settles O37: the notification's bytes are those of a plain frame's fields (`plain_bytes`), which is heard, and
byte 0 is no Control/ACK's unless it is 0 (`notifyFrame_delivered`). -/
theorem plainNotificationDelivered : Obligations.PlainNotificationDelivered := by
  intro b0 flags seq p s hs hf ha hb hcls henc hcs hfrag hlen hq
  obtain ⟨cls, hcode, hdata⟩ := classField_of_lt hcls
  have wf : FrameTail.wf ⟨flags, seq, p, none⟩ = true := plain_wf hlen hcs
  have heard : Heard ⟨flags, seq, p, none⟩ s :=
    ⟨listening_of hs hf, ha, ⟨wf, henc, fun h => absurd (hcs.symm.trans h) nofun⟩, hfrag, hq⟩
  have notAck : ¬(cls = .control ∧ subtypeField b0 = ackSubtype) := by
    rintro ⟨rfl, hsub⟩
    exact hb (by rw [← packByte0_fields b0, hcode, hsub]; rfl)
  have row := notifyFrame_delivered heard notAck
  rw [← hcode, packByte0_fields] at row
  rw [← plain_bytes]
  refine (notifyBytes_split (splitFrame_of_bytes wf) s).trans (row.trans ?_)
  simp [deliveredFrame, owed, ackFlag, hdata]

end Sys2Proof.Machine
end

section
/-! PROOFS. Every event a step emits is the encoding of an output row (R130-R137): which events those are, what each
shared operation and each rule emits, and the step. -/

namespace Sys2Proof.Machine

/-! ## Events that are output rows -/

/-- The event is the encoding of a well-formed output row (R130). -/
def OutputEvent (e : Bytes) : Prop := ∃ i, decode .output e = .ok i ∧ i.wf = true ∧ encode i = e

theorem OutputEvent.of_encode {i : Instr} (hf : i.format = .output) (hw : i.wf = true) : OutputEvent (encode i) :=
  ⟨i, hf ▸ decodeEncode i hw, hw, rfl⟩

theorem OutputEvent.cmdDone (op st d : Byte) : OutputEvent [0xC1, op, st, d] :=
  of_encode (i := .cmdDone op st d) rfl rfl

theorem OutputEvent.log (code arg : Byte) : OutputEvent [0xC3, code, arg] := of_encode (i := .log code arg) rfl rfl

theorem OutputEvent.fatal (code : Byte) : OutputEvent [0xC4, code] := of_encode (i := .fatal code) rfl rfl

theorem OutputEvent.release : OutputEvent [0xC5] := of_encode (i := .release) rfl rfl

/-- The snapshot has the 26 bytes of R137. -/
theorem OutputEvent.queryResp (s : State) : OutputEvent (0xC6 :: snapshot s) :=
  of_encode (i := .queryResp (snapshot s)) rfl rfl

/-- The fields of a frame value are well formed where its payload fits the length byte (R105, R151). -/
theorem frameFields_wf {f : Frame} (h : f.payload.length ≤ Config.maxFramePayload) (crc : Config.Crc) :
    (frameFields crc f).tail.wf = true := by
  refine Bool.and_eq_true_iff.mpr ⟨decide_eq_true h, ?_⟩
  change ((if csFlag f.flags then some _ else none : Option Half).isSome == csFlag f.flags) = true
  cases csFlag f.flags <;> rfl

/-- The bytes of well-formed fields have the length their own bytes give (R110). -/
theorem frameShaped_bytes {p : FrameParts} (h : p.tail.wf = true) : frameShaped p.bytes = true := by
  obtain ⟨cls, subtype, flags, seq, payload, sum⟩ := p
  obtain ⟨fits, present⟩ := Bool.and_eq_true_iff.mp h
  have count : (BitVec.ofNat 8 payload.length).toNat = payload.length :=
    Nat.mod_eq_of_lt (Nat.lt_succ_of_le (of_decide_eq_true fits))
  have bit : flags.getLsbD 1 = sum.isSome := (beq_iff_eq.mp present).symm
  simp only [FrameParts.bytes, frameShaped, count, bit]
  cases sum <;> simp

theorem OutputEvent.txWrite {f : Frame} (h : f.payload.length ≤ Config.maxFramePayload) :
    OutputEvent (0xC0 :: encodeFrame Config.crc16 f) :=
  of_encode (i := .txWrite _) rfl (frameShaped_bytes (frameFields_wf h _))

/-- What has been emitted after is what had been emitted before and encodings of output rows. -/
def Emitted (before after : List Bytes) : Prop := ∃ evs, after = before ++ evs ∧ ∀ e ∈ evs, OutputEvent e

theorem Emitted.refl (out : List Bytes) : Emitted out out := ⟨[], by simp, nofun⟩

theorem Emitted.one {e : Bytes} (h : OutputEvent e) (out : List Bytes) : Emitted out (out ++ [e]) :=
  ⟨[e], rfl, by simpa using h⟩

theorem Emitted.trans {a b c : List Bytes} (h : Emitted a b) (k : Emitted b c) : Emitted a c := by
  obtain ⟨evs, rfl, he⟩ := h
  obtain ⟨fvs, rfl, hf⟩ := k
  exact ⟨evs ++ fvs, List.append_assoc .., List.forall_mem_append.mpr ⟨he, hf⟩⟩

theorem Emitted.cmdDone (op st d : Byte) (s : State) : Emitted s.out (emit [0xC1, op, st, d] s).out :=
  .one (.cmdDone op st d) s.out

theorem Emitted.log (code arg : Byte) (s : State) : Emitted s.out (emit [0xC3, code, arg] s).out :=
  .one (.log code arg) s.out

/-! ## The shared operations -/

theorem fatalEntry_emits (code : FatalCode) (s : State) : Emitted s.out (fatalEntry code s).out := by
  refine ⟨_, fatalEntry_out code s, ?_⟩
  unfold fatalEvents
  have entered := OutputEvent.fatal code.code
  have ended := OutputEvent.cmdDone 0x02 0x23 code.code
  split
  · exact List.forall_mem_singleton.mpr entered
  · exact List.forall_mem_cons.mpr ⟨entered, List.forall_mem_singleton.mpr ended⟩

theorem failSend_emits (st : Status) (s : State) : Emitted s.out (failSend st s).out := by
  unfold failSend
  split
  · exact .refl _
  · exact .cmdDone _ _ _ s

theorem releaseLink_emits (s : State) : Emitted s.out (releaseLink s).out := by
  unfold releaseLink
  split
  · exact .one .release s.out
  · exact .refl _

theorem advance_emits (s : State) : Emitted s.out (advance s).out := by
  unfold advance
  split
  · exact .cmdDone _ _ _ _
  · exact .refl _

theorem ackResolve_emits {p : Bytes} {s t : State} (h : ackResolve p s = .ok t) : Emitted s.out t.out := by
  rcases ackResolve_cases h with ⟨_, h⟩ | ⟨_, _, _, _, _, _, h⟩ | ⟨_, _, _, _, _, _, h⟩ | ⟨_, _, _, _, h⟩ <;> cases h
  · exact advance_emits _
  · exact .refl _
  · exact .log _ _ s

theorem timerStep_emits (s : State) : Emitted s.out (timerStep s).out := by
  rcases timerStep_cases s with ⟨_, h⟩ | ⟨_, _, _, h⟩ | ⟨_, _, _, h⟩ <;> rw [h]
  · exact .refl _
  · exact .refl _
  · exact .one (.cmdDone _ _ _) s.out

/-! ## The inbound pipeline -/

/-- A payload that the 16-bit length field counts is delivered as an output row (R133). -/
theorem deliverMessage_emits {m : Message} (h : m.payload.length ≤ Config.maxPayload) (s : State) :
    Emitted s.out (deliverMessage m s).out :=
  .one (.of_encode (i := .deliver _ m.seq m.flags m.payload) rfl (decide_eq_true h)) s.out

theorem classify_emits {m : Message} {s t : State} (hm : m.payload.length ≤ Config.maxPayload)
    (h : classify m s = .ok t) : Emitted s.out t.out := by
  unfold classify at h
  split at h
  · exact ackResolve_emits h
  · cases h
    exact deliverMessage_emits hm s

theorem finishMessage_emits {m : Message} (h : m.payload.length ≤ Config.maxPayload) (s : State) :
    Emitted s.out (finishMessage m s).out := by
  unfold finishMessage
  split
  · exact fatalEntry_emits _ s
  · rename_i t hc
    have kept : (oweMessageAck m t).out = t.out := by rw [oweMessageAck_eq]
    exact kept ▸ classify_emits h hc

/-- A delivered message has the payload of its one frame or that of a reassembly, as long as RA_TARGET (R194, R195). -/
theorem reassemble_delivers {f : Frame} {s t : State} {m : Message} (hf : f.payload.length ≤ Config.maxFramePayload)
    (h : reassemble f s = .delivered m t) : m.payload.length ≤ Config.maxPayload := by
  have appended {data : Bytes} {u : State} (h : appendData data u = .delivered m t) :
      m.payload.length ≤ Config.maxPayload := by
    rcases appendData_cases data u with ⟨_, e⟩ | ⟨_, e⟩ | ⟨_, e⟩ <;> cases e.symm.trans h
    rw [readBytes_length]
    exact Nat.le_of_lt_succ u.raTarget.isLt
  rcases reassemble_cases f s with ⟨_, _, e⟩ | ⟨_, _, e⟩ | ⟨data, _, e⟩ | ⟨lo, hi, data, _, _, _, e⟩
  · cases e.symm.trans h
    exact hf.trans (by decide)
  · cases e.symm.trans h
  · exact appended (e.symm.trans h)
  · exact appended (e.symm.trans h)

theorem acceptFrame_emits {f : Frame} {s t : State} (hf : f.payload.length ≤ Config.maxFramePayload)
    (h : acceptFrame f s = .next t) : Emitted s.out t.out := by
  rcases acceptFrame_cases f s with
    ⟨_, e⟩ | ⟨_, u, hu, ⟨_, _, e⟩ | ⟨_, ⟨_, v, hv, e⟩ | ⟨v, hv, e⟩ | ⟨_, v, hv, e⟩⟩⟩ <;> cases e.symm.trans h
  · exact fatalEntry_emits _ s
  all_goals have heard : u.out = s.out := by rw [hu]
  · exact heard ▸ fatalEntry_emits _ u
  all_goals have left : v.out = s.out := by rw [reassemble_only (t := v) (by rw [hv]; rfl), heard]
  · exact left ▸ fatalEntry_emits _ v
  · rw [oweFrameAck_eq, left]
    exact .refl _
  · rw [← left, oweFrameAck_eq]
    exact finishMessage_emits (reassemble_delivers hf hv) _

/-- What DECODE accepts has a payload that the length byte counts (R105, R160). -/
theorem decodeFrameValue_payload {crc : Config.Crc} {b : Bytes} {f : Frame} (h : decodeFrameValue crc b = .ok f) :
    f.payload.length ≤ Config.maxFramePayload := by
  unfold decodeFrameValue at h
  split at h
  · cases h
  rename_i p hp
  have fits : p.tail.payload.length ≤ Config.maxFramePayload :=
    of_decide_eq_true (Bool.and_eq_true_iff.mp (splitFrame_wf hp)).1
  unfold checkFrame at h
  split at h
  · cases h
  split at h
  · cases h
  iterate 2
    split at h
    · cases h
  cases h
  exact fits

theorem notifyBytes_emits {b : Bytes} {s t : State} (h : notifyBytes b s = .next t) : Emitted s.out t.out := by
  unfold notifyBytes afterDecode at h
  split at h
  · split at h
    · cases h
      exact fatalEntry_emits _ s
    · exact acceptFrame_emits (decodeFrameValue_payload ‹_›) h
  · cases h
    exact .log _ _ s

/-! ## The commands and the other events -/

theorem execReady_emits {a : ReadyArgs} {s t : State} (h : execReady a s = .next t) : Emitted s.out t.out := by
  cases a with
  | badLength rest => cases h; exact .cmdDone _ _ _ s
  | capacity cap =>
    unfold execReady at h
    dsimp only at h
    split at h <;> cases h <;> exact .cmdDone _ _ _ _

theorem execSend_emits {a : SendArgs} {s t : State} (h : execSend a s = .next t) : Emitted s.out t.out := by
  rcases execSend_cases h with ⟨st, d, rfl⟩ | ⟨_, _, _, _, _, _, _, _, _, rfl⟩
  · exact .cmdDone _ _ _ s
  · exact .refl _

theorem execQuery_emits {a : NoArgs} {s t : State} (h : execQuery a s = .next t) : Emitted s.out t.out := by
  cases a <;> cases h
  · exact .one (.queryResp s) s.out
  · exact .cmdDone _ _ _ s

theorem execClose_emits {a : NoArgs} {s t : State} (h : execClose a s = .next t) : Emitted s.out t.out := by
  cases a with
  | badLength rest => cases h; exact .cmdDone _ _ _ s
  | exact =>
    unfold execClose at h
    dsimp only at h
    split at h <;> cases h
    · exact .cmdDone _ _ _ s
    · have released := releaseLink_emits { teardown (failSend .closed s) with sess := .closed }
      exact ((failSend_emits .closed s).trans released).trans (.cmdDone _ _ _ _)

theorem execWriteDone_emits {st : Byte} {s t : State} (h : execWriteDone st s = .next t) : Emitted s.out t.out := by
  unfold execWriteDone at h
  split at h
  · split at h <;> cases h
    · unfold ackWriteDone
      split
      · exact .log _ _ _
      · exact .refl _
    · unfold sendWriteDone
      split
      · exact .refl _
      split
      · exact .cmdDone _ _ _ _
      split
      · exact .refl _
      · exact advance_emits _
  · cases h
    exact .log _ _ s

theorem execLinkDown_emits {s t : State} (h : execLinkDown s = .next t) : Emitted s.out t.out := by
  unfold execLinkDown at h
  split at h <;> cases h
  · exact .refl _
  · exact failSend_emits .transportError s

/-! ## Every transaction and every step -/

/-- Every input transaction's own rule emits output rows only. -/
theorem exec_emits {b : Bytes} {i : Instr} {s t : State} (hd : decode .input b = .ok i) (h : exec i s = .next t) :
    Emitted s.out t.out := by
  have illegal {tag : Byte} (e : exec i s = .next (illegalCommand tag s)) : Emitted s.out t.out := by
    cases e.symm.trans h
    exact .cmdDone _ _ _ s
  obtain ⟨tag, rest, rfl, hi⟩ := decodeInput_cases hd
  rcases hi with ⟨_, rfl⟩ | ⟨_, rfl⟩ | ⟨_, rfl⟩ | ⟨_, rfl⟩ | ⟨_, rfl⟩ | ⟨_, rfl⟩ | ⟨_, rfl⟩ | ⟨_, rfl⟩ | ⟨_, rfl⟩ |
    ⟨_, rfl⟩ | ⟨_, rfl⟩ | ⟨_, rfl⟩ | ⟨_, st, _, rfl⟩ | ⟨_, _, rfl⟩ | ⟨_, _, rfl⟩ | ⟨_, rfl⟩ | ⟨_, rfl⟩ | ⟨_, rfl⟩ |
    ⟨_, rfl⟩ | ⟨_, rfl⟩
  · exact illegal rfl
  · exact execReady_emits h
  · exact execSend_emits h
  · exact execClose_emits h
  · exact execQuery_emits h
  iterate 6 exact illegal rfl
  · exact notifyBytes_emits h
  · exact execWriteDone_emits h
  · cases h
    exact timerStep_emits s
  · exact execLinkDown_emits h
  all_goals cases h

/-- No fragment is longer than the effective capacity, or than the two bytes of its count (R180). -/
theorem nextFragment_length_le (len off cap : Nat) (p : Bytes) :
    (nextFragment len off cap p).payload.length ≤ max 2 cap := by
  unfold nextFragment
  split <;> simp only [slice, List.length_append, List.length_take, le16_length] <;> omega

theorem currentFragment_length_le (s : State) : (currentFragment s).payload.length ≤ Config.maxFramePayload := by
  have cap : capEff s ≤ 255 := Nat.min_le_right _ _
  exact (nextFragment_length_le _ _ _ _).trans (by simp only [Config.maxFramePayload]; omega)

theorem arbiter_emits {s t : State} (h : arbiter s = .next t) : Emitted s.out t.out := by
  rcases arbiter_cases s with ⟨_, e⟩ | ⟨_, _, a, rest, _, e⟩ | ⟨_, _, _, _, e⟩ <;> cases e.symm.trans h
  · exact .refl _
  · exact .one (.txWrite (f := ackFrame s.txSeq a) (Nat.le_add_left 1 254)) s.out
  · exact .one (.txWrite (f := sendFrame s s.txSeq (currentFragment s)) (currentFragment_length_le s)) s.out

/-- Settles O53: the transaction's own rule emits output rows (`exec_emits`), and so does the arbiter, whose one
frame fits its length byte (`arbiter_emits`). -/
theorem emittedEventsDecode : Obligations.EmittedEventsDecode := by
  intro s t h
  rcases step_cases h with ⟨_, rfl⟩ | ⟨b, u, i, v, hf, hd, he, ha⟩
  · exact Emitted.refl t.out
  · obtain ⟨waiting, rfl⟩ := fetch_cases hf
    exact (exec_emits hd he).trans (arbiter_emits ha)

end Sys2Proof.Machine
end

section
/-! PROOFS. The frame codec: the layout that ENCODE writes (R151-R154), DECODE's checks in their order (R160-R165), and
the round trip and the checksum's rejection (R167, R168). -/

namespace Sys2Proof.Machine

/-! ## ENCODE -/

/-- The checksum of a payload under its own length: that of the header where there is no payload (R154). -/
theorem payloadChecksum_eq (crc : Config.Crc) (seq : Byte) (p : Bytes) :
    payloadChecksum crc seq p =
      if p = [] then crc 0 [seq, BitVec.ofNat 8 p.length] else crc (crc 0 [seq, BitVec.ofNat 8 p.length]) p := by
  cases p <;> simp [payloadChecksum, checksum]

/-- The fields of a frame with a checksum (R151). -/
theorem frameFields_checked {f : Frame} (cs : csFlag f.flags = true) (crc : Config.Crc) :
    frameFields crc f =
      ⟨f.cls.code, f.subtype, ⟨f.flags, f.seq, f.payload, some (payloadChecksum crc f.seq f.payload)⟩⟩ := by
  simp only [frameFields, cs, if_true]

/-- The fields of a frame without a checksum (R151). -/
theorem frameFields_plain {f : Frame} (cs : csFlag f.flags = false) (crc : Config.Crc) :
    frameFields crc f = ⟨f.cls.code, f.subtype, ⟨f.flags, f.seq, f.payload, none⟩⟩ := by
  simp only [frameFields, cs, Bool.false_eq_true, if_false]

/-- Settles O7: byte 0 and the checksum's two bytes as arithmetic (`packByte0_eq`, `le16_eq`), the checksum by its two
cases (`payloadChecksum_eq`). -/
theorem encodeLayout : Obligations.EncodeLayout := by
  intro crc f _
  simp only [← payloadChecksum_eq]
  by_cases cs : f.flags.getLsbD 1 = true
  · rw [encodeFrame, frameFields_checked cs, if_pos cs]
    simp [FrameParts.bytes, packByte0_eq, le16_eq, twoBytes]
  · rw [encodeFrame, frameFields_plain (Bool.eq_false_iff.mpr cs), if_neg cs]
    simp [FrameParts.bytes, packByte0_eq]

/-- Settles O8: four bytes of header, the payload, and two bytes of checksum where there is one. -/
theorem encodedLength : Obligations.EncodedLength := by
  intro crc f
  by_cases cs : f.flags.getLsbD 1 = true
  · rw [encodeFrame, frameFields_checked cs, if_pos cs]
    simp [FrameParts.bytes]
    omega
  · rw [encodeFrame, frameFields_plain (Bool.eq_false_iff.mpr cs), if_neg cs]
    simp [FrameParts.bytes]
    omega

/-! ## DECODE -/

theorem frameClass_code (cls : FrameClass) : frameClass cls.code = some cls := by
  cases cls <;> rfl

/-- Class 2 or 3 names no class (R103). -/
theorem frameClass_of_ge {b0 : Byte} (h : 2 ≤ b0.toNat % 4) : frameClass (classField b0) = none := by
  cases named : frameClass (classField b0) with
  | none => rfl
  | some cls =>
    have field := classField_toNat b0
    rw [eq_code_of_frameClass named, classCode_toNat] at field
    cases cls <;> simp only at field <;> omega

theorem frameClass_reserved (low : BitVec 1) : frameClass ((1 : BitVec 1) ++ low : BitVec (1 + 1)) = none := by
  revert low
  decide

/-- A reserved class is found before anything but the length (R162, R165). -/
theorem checkFrame_reserved {field : BitVec 2} {t : FrameTail} (hw : t.wf = true) (hc : frameClass field = none)
    (crc : Config.Crc) (subtype : BitVec 6) : checkFrame crc ⟨field, subtype, t⟩ = .error .reservedClass := by
  simp [checkFrame, hw, hc]

/-- The flag CS of a well-formed tail says whether its checksum is there (R100). -/
theorem checksum_isSome_of_wf {t : FrameTail} (h : t.wf = true) : t.checksum.isSome = csFlag t.flags :=
  beq_iff_eq.mp (Bool.and_eq_true_iff.mp h).2

/-- The checks that follow those of length and class: encryption, then the checksum (R163, R164, R165). -/
theorem checkFrame_named {field : BitVec 2} {cls : FrameClass} {t : FrameTail} (hw : t.wf = true)
    (hc : frameClass field = some cls) (crc : Config.Crc) (subtype : BitVec 6) :
    checkFrame crc ⟨field, subtype, t⟩ =
      if encFlag t.flags = true then .error .encrypted
      else if csFlag t.flags = true ∧ t.checksum ≠ some (payloadChecksum crc t.seq t.payload) then
        .error .checksumMismatch
      else .ok ⟨cls, subtype, t.flags, t.seq, t.payload⟩ := by
  simp [checkFrame, hw, hc, checksum_isSome_of_wf hw]

/-- DECODE of the bytes of well-formed fields is the checks on those fields (R160). -/
theorem decodeFrameValue_bytes {p : FrameParts} (hw : p.tail.wf = true) (crc : Config.Crc) :
    decodeFrameValue crc p.bytes = checkFrame crc p := by
  simp only [decodeFrameValue, splitFrame_of_bytes hw]

/-- Settles O9: the fields of an encodable frame are well formed (`frameFields_wf`), and their checksum is the one that
DECODE computes. -/
theorem frameRoundTrip : Obligations.FrameRoundTrip := by
  rintro crc f ⟨fits, plain, _⟩
  have hw := frameFields_wf fits crc
  have sum (cs : csFlag f.flags = true) :
      (frameFields crc f).tail.checksum = some (payloadChecksum crc f.seq f.payload) := if_pos cs
  have unencrypted : ¬encFlag f.flags = true := Bool.eq_false_iff.mp plain
  calc decodeFrameValue crc (encodeFrame crc f) = checkFrame crc (frameFields crc f) := decodeFrameValue_bytes hw crc
    _ = _ := checkFrame_named hw (frameClass_code f.cls) crc f.subtype
    _ = .ok f := (if_neg unencrypted).trans (if_neg fun ⟨cs, ne⟩ => ne (sum cs))

/-! ## The checksum's rejection -/

/-- The payload begins at byte 4 of the frame (R100). -/
theorem bytes_set_payload (cls : BitVec 2) (subtype : BitVec 6) (flags seq : Byte) (a b : Bytes) (x y : Byte)
    (sum : Option Half) :
    (FrameParts.mk cls subtype ⟨flags, seq, a ++ x :: b, sum⟩).bytes.set (4 + a.length) y =
      (FrameParts.mk cls subtype ⟨flags, seq, a ++ y :: b, sum⟩).bytes := by
  simp [FrameParts.bytes, Nat.add_comm 4]

/-- Every single-byte change of a payload changes its checksum (R155 law 4). -/
theorem payloadChecksum_detects {crc : Config.Crc} (laws : Config.CrcLaws crc) (seq : Byte) (a b : Bytes) {x y : Byte}
    (h : x ≠ y) : payloadChecksum crc seq (a ++ x :: b) ≠ payloadChecksum crc seq (a ++ y :: b) := by
  simpa [payloadChecksum_eq] using laws.detects _ a b x y h

/-- A changed payload byte under the checksum of the payload before (R168). -/
theorem checkFrame_changed {crc : Config.Crc} (laws : Config.CrcLaws crc) (cls : FrameClass) (subtype : BitVec 6)
    {flags seq : Byte} {a b : Bytes} {x y : Byte} (hne : y ≠ x)
    (hw : FrameTail.wf ⟨flags, seq, a ++ y :: b, some (payloadChecksum crc seq (a ++ x :: b))⟩ = true)
    (plain : ¬encFlag flags = true) (cs : csFlag flags = true) :
    checkFrame crc ⟨cls.code, subtype, ⟨flags, seq, a ++ y :: b, some (payloadChecksum crc seq (a ++ x :: b))⟩⟩ =
      .error .checksumMismatch := by
  have differs := payloadChecksum_detects laws seq a b hne.symm
  rw [checkFrame_named hw (frameClass_code cls), if_neg plain, if_pos ⟨cs, fun e => differs (Option.some.inj e)⟩]

/-- Settles O10: the changed bytes are those of the fields with the changed payload (`bytes_set_payload`), whose checksum
is another (`checkFrame_changed`); without one they are the encoding of the changed frame (`frameRoundTrip`). -/
theorem checksumRejection : Obligations.ChecksumRejection := by
  rintro crc ⟨cls, subtype, flags, seq, _⟩ a b x y laws ⟨fits, plain, high⟩ rfl hne
  have changed := bytes_set_payload cls.code subtype flags seq a b x y
  have fits' : (a ++ y :: b).length ≤ 255 := by simpa using fits
  refine ⟨fun cs => ?_, fun cs => ?_⟩
  · have hw : FrameTail.wf ⟨flags, seq, a ++ y :: b, some (payloadChecksum crc seq (a ++ x :: b))⟩ = true :=
      Bool.and_eq_true_iff.mpr ⟨decide_eq_true fits', beq_iff_eq.mpr cs.symm⟩
    rw [encodeFrame, frameFields_checked cs, changed, decodeFrameValue_bytes hw]
    exact checkFrame_changed laws cls subtype hne hw (Bool.eq_false_iff.mp plain) cs
  · rw [encodeFrame, frameFields_plain cs, changed,
      ← frameFields_plain (f := ⟨cls, subtype, flags, seq, a ++ y :: b⟩) cs crc]
    exact frameRoundTrip crc _ ⟨fits', plain, high⟩

/-! ## DECODE's checks on bytes -/

/-- The transmitted checksum is the two bytes after the payload (R106). -/
theorem readChecksum_drop {n : Nat} {rest : Bytes} (h : rest.length = n + 2) :
    readChecksum true (rest.drop n) = some (rd16 (rest.getD n 0) (rest.getD (n + 1) 0)) := by
  obtain ⟨lo, hi, last⟩ := List.length_eq_two.mp (show (rest.drop n).length = 2 by simp [h])
  have after (i : Nat) : rest.getD (n + i) 0 = (rest.drop n).getD i 0 := by simp [List.getD_eq_getElem?_getD]
  rw [after 1, show rest.getD n 0 = _ from after 0, last]
  rfl

/-- A payload of the length that the length byte gives has the checksum under that byte (R154). -/
theorem payloadChecksum_of_length {p : Bytes} {n : Byte} (h : p.length = n.toNat) (crc : Config.Crc) (seq : Byte) :
    payloadChecksum crc seq p = checksum crc seq n p := by
  rw [payloadChecksum, h, BitVec.ofNat_toNat, BitVec.setWidth_eq]

/-- A listening block runs the fatal entry of the error that DECODE raises (R160, R300). -/
theorem notifyBytes_undecoded {b : Bytes} {s : State} {c : FatalCode} (hl : listening s = true)
    (h : decodeFrameValue Config.crc16 b = .error c) : notifyBytes b s = .next (fatalEntry c s) := by
  simp only [notifyBytes, hl, if_true, h, afterDecode]

/-- The checksum that a frame with CS carries is compared as a number (R106, R164). -/
theorem checksum_differs_iff {flags n : Byte} {rest : Bytes}
    (right : rest.length = n.toNat + if flags.getLsbD 1 then 2 else 0) (crc : Config.Crc) (seq : Byte) :
    (flags.getLsbD 1 = true ∧ readChecksum (flags.getLsbD 1) (rest.drop n.toNat) ≠
        some (payloadChecksum crc seq (rest.take n.toNat))) ↔
      flags.getLsbD 1 = true ∧
        checksum crc seq n (rest.take n.toNat) ≠ rd16 (rest.getD n.toNat 0) (rest.getD (n.toNat + 1) 0) := by
  refine and_congr_right fun cs => ?_
  rw [cs, if_pos rfl] at right
  have payload : (rest.take n.toNat).length = n.toNat := List.length_take_of_le (by omega)
  rw [cs, readChecksum_drop right, payloadChecksum_of_length payload, ne_comm, ne_eq, Option.some_inj]

/-- DECODE on four bytes of header and the rest (R160, R165). -/
theorem decodeFrameValue_cons (crc : Config.Crc) (b0 flags seq n : Byte) (rest : Bytes) :
    decodeFrameValue crc (b0 :: flags :: seq :: n :: rest) =
      if rest.length ≠ n.toNat + (if flags.getLsbD 1 then 2 else 0) then .error .lengthMismatch
      else if 2 ≤ b0.toNat % 4 then .error .reservedClass
      else if flags.getLsbD 0 = true then .error .encrypted
      else if flags.getLsbD 1 = true ∧
          checksum crc seq n (rest.take n.toNat) ≠ rd16 (rest.getD n.toNat 0) (rest.getD (n.toNat + 1) 0) then
        .error .checksumMismatch
      else .ok ⟨if b0.toNat % 4 = 0 then .control else .data, BitVec.ofNat 6 (b0.toNat / 4), flags, seq,
        rest.take n.toNat⟩ := by
  by_cases right : rest.length = n.toNat + (if flags.getLsbD 1 then 2 else 0)
  · have fields : splitFrame (b0 :: flags :: seq :: n :: rest) = .ok _ := if_pos right
    have hw := splitFrame_wf fields
    rw [decodeFrameValue, fields, if_neg (not_not.mpr right)]
    by_cases reserved : 2 ≤ b0.toNat % 4
    · rw [if_pos reserved]
      exact checkFrame_reserved hw (frameClass_of_ge reserved) crc _
    · rw [if_neg reserved, ← subtypeField_eq]
      simp only [← checksum_differs_iff right]
      exact checkFrame_named hw (frameClass_of_lt (Nat.not_le.mp reserved)) crc _
  · rw [decodeFrameValue, splitFrame, if_neg right, if_pos right]

/-- Settles O11: fewer than four bytes are truncated, and on a header and the rest the checks are those of
`decodeFrameValue_cons`; a listening block runs the fatal entry of an error (`notifyBytes_undecoded`). -/
theorem decodeChecks : Obligations.DecodeChecks := by
  refine ⟨fun crc b => ?_, fun b s c hs hf h => notifyBytes_undecoded (listening_of hs hf) h⟩
  match b with
  | [] | [_] | [_, _] | [_, _, _] => rfl
  | b0 :: flags :: seq :: n :: rest =>
    have payload : slice (b0 :: flags :: seq :: n :: rest) 4 (4 + n.toNat) = rest.take n.toNat := by simp [slice]
    have after (i : Nat) : (b0 :: flags :: seq :: n :: rest).getD (4 + i) 0 = rest.getD i 0 := by
      rw [Nat.add_comm]
      rfl
    have size : (b0 :: flags :: seq :: n :: rest).length ≠ 4 + n.toNat + 2 * (flags.getLsbD 1).toNat ↔
        rest.length ≠ n.toNat + if flags.getLsbD 1 then 2 else 0 := by
      cases flags.getLsbD 1 <;> simp <;> omega
    have whole : ¬(b0 :: flags :: seq :: n :: rest).length < 4 := by simp
    rw [decodeFrameValue_cons]
    simp only [List.getD_cons_zero, List.getD_cons_succ, payload, after, size, if_neg whole,
      show 5 + n.toNat = 4 + (n.toNat + 1) by omega]

/-! ## Reserved classes -/

/-- Settles O39: the row is the notification of its frame, whose class is found reserved (`checkFrame_reserved`). -/
theorem reservedClassFatal : Obligations.ReservedClassFatal := by
  intro low subtype t s hs hf hw
  rw [exec_frame rfl, notifyFrame, if_pos (listening_of hs hf), checkFrame_reserved hw (frameClass_reserved low)]
  rfl

end Sys2Proof.Machine
end

section
/-! PROOFS. The frames that the block sends: each meets ENCODE's preconditions, from every sound state (R152). -/

namespace Sys2Proof.Machine

/-- The flags of a sent frame: CS, ACK and FRAG as given, all others 0 (R104, R109, R151). -/
theorem sendFlags_bits (cs ack frag : Bool) :
    (sendFlags cs ack frag).getLsbD 0 = false ∧ (sendFlags cs ack frag).getLsbD 2 = false ∧
    (sendFlags cs ack frag).getLsbD 3 = ack ∧ (sendFlags cs ack frag).getLsbD 4 = frag ∧
    (sendFlags cs ack frag).extractLsb' 5 3 = 0 := by
  revert cs ack frag
  decide

/-- A frame that the block may send: it meets ENCODE's preconditions (R151), DIR is 0 (R104), no Control frame is a
fragment (R187) and no ACK asks for one (R252). -/
def Sendable (f : Frame) : Prop :=
  encodable f ∧ f.flags.getLsbD 2 = false ∧ (f.cls = .control → f.flags.getLsbD 4 = false) ∧
  (f.cls = .control → f.subtype = 0 → f.flags.getLsbD 3 = false)

/-- What makes a frame with the block's own flags sendable. -/
theorem sendable_of {f : Frame} {cs ack frag : Bool} (flags : f.flags = sendFlags cs ack frag)
    (fits : f.payload.length ≤ 255) (whole : f.cls = .control → frag = false)
    (noAck : f.cls = .control → f.subtype = ackSubtype → ack = false) : Sendable f := by
  obtain ⟨enc, dir, hack, hfrag, high⟩ := sendFlags_bits cs ack frag
  rw [← flags] at enc dir hack hfrag high
  exact ⟨⟨fits, enc, high⟩, dir, fun hc => hfrag.trans (whole hc), fun hc hs => hack.trans (noAck hc hs)⟩

theorem ackFrame_sendable (seq a : Byte) : Sendable (ackFrame seq a) :=
  sendable_of rfl (Nat.le_add_left 1 254) (fun _ => rfl) fun _ _ => rfl

/-- What fits the capacity is the final fragment (R180). -/
theorem nextFragment_whole {len cap : Nat} (h : len ≤ cap) (off : Nat) (p : Bytes) :
    (nextFragment len off cap p).frag = false := by
  rw [nextFragment, if_pos (h.trans (Nat.le_add_left cap off))]

/-- The next frame of a SEND: a Control message fits one frame, and no Control/ACK asks for an ACK. -/
theorem currentFrame_sendable {s : State} (h : Coherent s) (hs : s.txState = .issue) :
    Sendable (sendFrame s s.txSeq (currentFragment s)) := by
  obtain ⟨_, _, control_fits⟩ := (phaseSound_issue hs).mp h.phase
  obtain ⟨_, _, noAck⟩ := h.latched
  exact sendable_of rfl (currentFragment_length_le s) (fun hc => nextFragment_whole (control_fits hc) _ _) noAck

/-- The arbiter emits nothing but sendable frames from a coherent state (R245). -/
theorem arbiter_sends {s t : State} (h : Coherent s) (ha : arbiter s = .next t) :
    ∃ evs, t.out = s.out ++ evs ∧ ∀ e ∈ evs, ∃ f, e = 0xC0 :: encodeFrame Config.crc16 f ∧ Sendable f := by
  rcases arbiter_cases s with ⟨_, e⟩ | ⟨_, _, a, rest, _, e⟩ | ⟨_, _, _, hs, e⟩ <;> cases e.symm.trans ha
  · exact ⟨[], by simp, nofun⟩
  · exact ⟨_, rfl, List.forall_mem_singleton.mpr ⟨_, rfl, ackFrame_sendable s.txSeq a⟩⟩
  · exact ⟨_, rfl, List.forall_mem_singleton.mpr ⟨_, rfl, currentFrame_sendable h hs⟩⟩

/-- A transaction's own rule emits no TX_WRITE (R245). -/
theorem exec_writes_none {b : Bytes} {i : Instr} {s t : State} (hd : decode .input b = .ok i)
    (h : exec i s = .next t) : ∃ evs, t.out = s.out ++ evs ∧ ∀ e ∈ evs, ¬isTxWrite e = true := by
  rcases exec_reports hd h with ⟨_, _, evs, ho, hw, _⟩ | ⟨⟨_, _, evs, ho, hw, _⟩, _⟩ <;>
    exact ⟨evs, ho, List.countP_eq_zero.mp hw⟩

/-- Settles O52: a transaction's own rule sends no frame (`exec_writes_none`) and keeps the state coherent
(`exec_coherent`), from which the arbiter's one frame is sendable (`arbiter_sends`). -/
theorem emittedFramesLegal : Obligations.EmittedFramesLegal := by
  intro s t h hs
  rcases step_cases hs with ⟨_, rfl⟩ | ⟨b, u, i, v, hf, hd, he, ha⟩
  · exact ⟨[], by simp, nofun⟩
  obtain ⟨waiting, rfl⟩ := fetch_cases hf
  have taken := h.coherent.unread s.rxExp waiting s.out
  have coherent := exec_coherent taken (fun p hb => fetch_rx (hb ▸ hf)) hd he
  obtain ⟨evs, ho, hn⟩ := exec_writes_none hd he
  obtain ⟨fvs, ko, sent⟩ := arbiter_sends coherent ha
  refine ⟨evs ++ fvs, by rw [ko, ho, List.append_assoc], fun e mem write => ?_⟩
  rcases List.mem_append.mp mem with mem | mem
  · exact absurd write (hn e mem)
  · exact sent e mem

end Sys2Proof.Machine
end

section
/-! PROOFS. The outbound split (R180-R184): one fragment, the induction over the fragments of a whole split, and what
their number and sizes are. -/

namespace Sys2Proof.Machine

/-! ## One fragment -/

/-- What fits the capacity is the final fragment, without a count (R180). -/
theorem nextFragment_final {len off cap : Nat} (h : len ≤ off + cap) (p : Bytes) :
    nextFragment len off cap p = ⟨slice p off len, false, len⟩ := if_pos h

/-- What does not fit starts with the count of what is left (R180). -/
theorem nextFragment_more {len off cap : Nat} (h : off + cap < len) (p : Bytes) :
    nextFragment len off cap p =
      ⟨le16 (BitVec.ofNat 16 (len - off)) ++ slice p off (off + cap - 2), true, off + cap - 2⟩ :=
  if_neg (Nat.not_le.mpr h)

theorem slice_length {p : Bytes} {i j : Nat} (h : j ≤ p.length) : (slice p i j).length = j - i := by
  rw [slice, List.length_take, List.length_drop]
  omega

/-- What is before a slice, and the slice (R13). -/
theorem take_append_slice {i j : Nat} (h : i ≤ j) (p : Bytes) : p.take i ++ slice p i j = p.take j := by
  rw [slice, ← List.take_add, Nat.add_sub_cancel' h]

/-! ## The whole split -/

theorem splitFrom_final {cap off : Nat} {p : Bytes} (h : p.length ≤ off + cap) (fuel : Nat) :
    splitFrom cap p (fuel + 1) off = [nextFragment p.length off cap p] := by
  simp [splitFrom, nextFragment_final h]

theorem splitFrom_more {cap off : Nat} {p : Bytes} (h : off + cap < p.length) (fuel : Nat) :
    splitFrom cap p (fuel + 1) off = nextFragment p.length off cap p :: splitFrom cap p fuel (off + cap - 2) := by
  simp [splitFrom, nextFragment_more h]

/-- A property of the cursor and of the fragments from there on holds of a split if it holds of a final fragment and
passes over a fragment that is not: every such fragment carries at least one byte, so the fuel is enough (R185). -/
theorem splitFrom_induction {cap : Nat} {p : Bytes} (hcap : 3 ≤ cap) {motive : Nat → List Fragment → Prop}
    (final : ∀ off, off ≤ p.length → p.length ≤ off + cap → motive off [nextFragment p.length off cap p])
    (more : ∀ off rest, off + cap < p.length → motive (off + cap - 2) rest →
      motive off (nextFragment p.length off cap p :: rest))
    (fuel off : Nat) (hoff : off ≤ p.length) (enough : p.length - off < fuel) :
    motive off (splitFrom cap p fuel off) := by
  induction fuel generalizing off with
  | zero => exact absurd enough (Nat.not_lt_zero _)
  | succ fuel ih =>
    by_cases h : p.length ≤ off + cap
    · rw [splitFrom_final h]
      exact final off hoff h
    · have h := Nat.not_le.mp h
      rw [splitFrom_more h]
      exact more off _ h (ih (off + cap - 2) (by omega) (by omega))

theorem split_induction {cap : Nat} {p : Bytes} (hcap : 3 ≤ cap) {motive : Nat → List Fragment → Prop}
    (final : ∀ off, off ≤ p.length → p.length ≤ off + cap → motive off [nextFragment p.length off cap p])
    (more : ∀ off rest, off + cap < p.length → motive (off + cap - 2) rest →
      motive off (nextFragment p.length off cap p :: rest)) : motive 0 (split cap p) :=
  splitFrom_induction hcap final more (p.length + 1) 0 (Nat.zero_le _) (by omega)

/-- The first frame of a split is the fragment at cursor 0 (R183). -/
theorem split_head (cap : Nat) (p : Bytes) : (split cap p)[0]? = some (nextFragment p.length 0 cap p) := by
  rw [split, splitFrom]
  split <;> rfl

/-! ## The number and the sizes of the fragments -/

/-- `k` fragments that are not final and fill the capacity, then a final one, carry `rest` bytes; `k` is no more and no
less than that takes (R183). -/
structure SplitShape (cap rest k : Nat) (fragments : List Fragment) : Prop where
  count : fragments.length = 1 + k
  enough : rest ≤ (cap - 2) * k + cap
  needed : k ≠ 0 → (cap - 2) * k + 2 < rest
  full : ∀ f ∈ fragments.take k, f.frag = true ∧ f.payload.length = 2 + (cap - 2)
  last : ∃ f, fragments[k]? = some f ∧ f.frag = false ∧ f.payload.length = rest - (cap - 2) * k

theorem SplitShape.final {cap off : Nat} {p : Bytes} (h : p.length ≤ off + cap) :
    SplitShape cap (p.length - off) 0 [nextFragment p.length off cap p] := by
  refine ⟨rfl, by omega, fun h => absurd rfl h, by simp, _, rfl, ?_⟩
  rw [nextFragment_final h]
  exact ⟨rfl, slice_length le_rfl⟩

theorem SplitShape.more {cap off k : Nat} {p : Bytes} {rest : List Fragment} (hcap : 3 ≤ cap)
    (h : off + cap < p.length) (ih : SplitShape cap (p.length - (off + cap - 2)) k rest) :
    SplitShape cap (p.length - off) (k + 1) (nextFragment p.length off cap p :: rest) := by
  obtain ⟨count, enough, needed, full, f, last, frag, size⟩ := ih
  have grow : (cap - 2) * (k + 1) = (cap - 2) * k + (cap - 2) := Nat.mul_succ ..
  refine ⟨by rw [List.length_cons, count]; omega, by omega, fun _ => ?_, ?_, f, last, frag, by omega⟩
  · by_cases hk : k = 0
    · subst hk; omega
    · have := needed hk; omega
  · rw [List.take_succ_cons, List.forall_mem_cons, nextFragment_more h]
    refine ⟨⟨rfl, ?_⟩, full⟩
    rw [List.length_append, le16_length, slice_length (by omega)]
    omega

theorem split_shape {cap : Nat} (hcap : 3 ≤ cap) (p : Bytes) : ∃ k, SplitShape cap p.length k (split cap p) :=
  split_induction (motive := fun off fragments => ∃ k, SplitShape cap (p.length - off) k fragments) hcap
    (fun _ _ h => ⟨0, .final h⟩) (fun _ _ h ⟨k, ih⟩ => ⟨k + 1, .more hcap h ih⟩)

/-- The number of fragments that are not final, as the ceiling of R183. -/
theorem SplitShape.count_eq {cap rest k : Nat} {fragments : List Fragment} (hcap : 3 ≤ cap) (hrest : cap < rest)
    (h : SplitShape cap rest k fragments) : (rest - cap + (cap - 2) - 1) / (cap - 2) = k := by
  have enough := h.enough
  have needed := h.needed
  have grow : (cap - 2) * (k + 1) = (cap - 2) * k + (cap - 2) := Nat.mul_succ ..
  have positive : k ≠ 0 := by
    rintro rfl
    omega
  have needed := needed positive
  refine Nat.div_eq_of_lt_le ?_ ?_ <;> rw [Nat.mul_comm] <;> omega

/-- Settles O12: the shape of a split (`split_shape`) is found by induction over its fragments and fixes their number
(`SplitShape.count_eq`). -/
theorem splitFrameCount : Obligations.SplitFrameCount := by
  intro cap p hcap _ _
  obtain ⟨k, shape⟩ := split_shape hcap p
  refine ⟨fun h => ?_, fun h => ?_, ?_⟩
  · rw [split, splitFrom_final (by omega), nextFragment_final (by omega)]
    simp [slice]
  · have number := shape.count_eq hcap h
    have enough := shape.enough
    obtain ⟨f, last, frag, size⟩ := shape.last
    have needed := shape.needed (by rintro rfl; omega)
    simp only [number]
    exact ⟨shape.count, shape.full, f, last, frag, size, by omega, by omega⟩
  · rintro hlen rfl
    have number := shape.count_eq hcap (by omega)
    rw [hlen] at number
    obtain rfl : 11 = k := number
    obtain ⟨f, last, _, size⟩ := shape.last
    refine ⟨shape.count, ?_, ?_⟩
    · rw [split_head, nextFragment_more (by omega), hlen]
      rfl
    · rw [last, Option.map_some, size, hlen]

/-- Settles O13: a fragment is no longer than the capacity (`nextFragment_length_le`), and the flags of a sent frame
keep ENC and the reserved bits 0 (`sendFlags_bits`). -/
theorem fragmentsFit : Obligations.FragmentsFit := by
  intro s seq hcap
  have short := nextFragment_length_le s.txLen.toNat s.txOff.toNat (min s.cap.toNat 255)
    (readBytes s.txBuf 0 s.txLen.toNat)
  rw [Nat.max_eq_right (by omega)] at short
  obtain ⟨enc, _, _, _, reserved⟩ := sendFlags_bits s.txCs s.txAckReq
    (nextFragment s.txLen.toNat s.txOff.toNat (min s.cap.toNat 255) (readBytes s.txBuf 0 s.txLen.toNat)).frag
  exact ⟨short, short.trans (Nat.min_le_right _ _), enc, reserved⟩

end Sys2Proof.Machine
end

section
/-! PROOFS. REASSEMBLE over the fragments of a message (R190-R194): what the copy of one fragment does, and that feeding
the frames of a split gives the payload back (R198). -/

namespace Sys2Proof.Machine

/-! ## The copy of one fragment -/

/-- Data beyond the target are an overflow (R193). -/
theorem appendData_beyond {data : Bytes} {s : State} (h : s.raTarget.toNat < s.raCount.toNat + data.length) :
    appendData data s = .raised .fragmentOverflow s := by
  rcases appendData_cases data s with ⟨_, e⟩ | ⟨hlt, _⟩ | ⟨heq, _⟩
  · exact e
  · omega
  · omega

/-- Data below the target are copied (R192). -/
theorem appendData_below {data : Bytes} {s : State} (h : s.raCount.toNat + data.length < s.raTarget.toNat) :
    appendData data s = .awaiting
      { s with raBuf := copied data s, raCount := BitVec.ofNat 16 (s.raCount.toNat + data.length) } := by
  rcases appendData_cases data s with ⟨hgt, _⟩ | ⟨_, e⟩ | ⟨heq, _⟩
  · omega
  · exact e
  · omega

/-- A copy within the target stays in RA_BUF (R94). -/
theorem copy_inside {data : Bytes} {s : State} (h : s.raCount.toNat + data.length ≤ s.raTarget.toNat) :
    s.raCount.toNat + data.length ≤ Config.bufferSize :=
  h.trans (Nat.le_of_lt_succ s.raTarget.isLt)

/-- After a copy RA_BUF starts with the bytes counted before and the data (R192). -/
theorem readBytes_copied {data : Bytes} {s : State} (hbuf : bufferWf s.raBuf = true)
    (h : s.raCount.toNat + data.length ≤ s.raTarget.toNat) :
    readBytes (copied data s) 0 (s.raCount.toNat + data.length) = readBytes s.raBuf 0 s.raCount.toNat ++ data := by
  rw [readBytes_add, Nat.zero_add, copied, readBytes_writeBytes_below hbuf (copy_inside h) le_rfl,
    readBytes_writeBytes hbuf (copy_inside h)]

/-- Data that reach the target complete the message, under the anchor's identity (R193, R194). -/
theorem appendData_reaches {data : Bytes} {s : State} (hbuf : bufferWf s.raBuf = true)
    (h : s.raCount.toNat + data.length = s.raTarget.toNat) :
    appendData data s = .delivered
      ⟨s.raClass, s.raSubtype, s.raSeq, s.raFlags, readBytes s.raBuf 0 s.raCount.toNat ++ data⟩
      { clearReassembly s with raBuf := copied data s } := by
  rcases appendData_cases data s with ⟨hgt, _⟩ | ⟨hlt, _⟩ | ⟨_, e⟩
  · omega
  · omega
  · rw [e, ← h, readBytes_copied hbuf h.le]

/-! ## The fragments of one split -/

/-- The first `off` bytes of the message `p` are counted and stand in RA_BUF, its length being the target
(R191, R192). -/
structure Gathered (p : Bytes) (off : Nat) (s : State) : Prop where
  canonical : bufferWf s.raBuf = true
  target : s.raTarget.toNat = p.length
  count : s.raCount.toNat = off
  bytes : readBytes s.raBuf 0 off = p.take off

/-- The next fragment of `p` to come is the one at cursor `off`: the first, and no reassembly is open, or a later one. -/
def Expects (p : Bytes) (off : Nat) (s : State) : Prop :=
  off = 0 ∧ s.raActive = false ∧ bufferWf s.raBuf = true ∨ off ≠ 0 ∧ s.raActive = true ∧ Gathered p off s

/-- A slice that leaves bytes of the message is counted and copied (R192). -/
theorem Gathered.append {p : Bytes} {off next : Nat} {s : State} (h : Gathered p off s) (hoff : off ≤ next)
    (hnext : next < p.length) :
    ∃ t, appendData (slice p off next) s = .awaiting t ∧ t.raActive = s.raActive ∧ Gathered p next t := by
  obtain ⟨canonical, target, rfl, bytes⟩ := h
  have size : s.raCount.toNat + (slice p s.raCount.toNat next).length = next := by
    rw [slice_length hnext.le]
    omega
  have room : s.raCount.toNat + (slice p s.raCount.toNat next).length < s.raTarget.toNat := by omega
  have small : next % 2 ^ 16 = next := Nat.mod_eq_of_lt (hnext.trans (target ▸ s.raTarget.isLt))
  have gathered := readBytes_copied canonical room.le
  rw [bytes, take_append_slice hoff, size] at gathered
  refine ⟨_, appendData_below room, rfl, writeBytes_wf canonical (copy_inside room.le), target, ?_, gathered⟩
  simp only [size, BitVec.toNat_ofNat, small]

/-- The rest of the message completes it (R193, R194). -/
theorem Gathered.complete {p : Bytes} {off : Nat} {s : State} (h : Gathered p off s) (hoff : off ≤ p.length) :
    ∃ m t, appendData (slice p off p.length) s = .delivered m t ∧ m.payload = p ∧ t.raActive = false := by
  obtain ⟨canonical, target, rfl, bytes⟩ := h
  have reached : s.raCount.toNat + (slice p s.raCount.toNat p.length).length = s.raTarget.toNat := by
    rw [slice_length le_rfl]
    omega
  refine ⟨_, _, appendData_reaches canonical reached, ?_, rfl⟩
  simp only [bytes, take_append_slice hoff, List.take_length]

/-- The FRAG flag of a frame the block sends (R109). -/
theorem fragFlag_sendFlags (cs ack frag : Bool) : fragFlag (sendFlags cs ack frag) = frag :=
  have ⟨_, _, _, more, _⟩ := sendFlags_bits cs ack frag
  more

/-- The state to which REASSEMBLE appends a fragment: the first one opens the reassembly (R191). -/
def opensWith (f : Frame) (target : Half) (s : State) : State :=
  if s.raActive then s else startReassembly f target s

/-- A fragment's count is the target where it is the first (R191), and read over where it is not (R192). -/
theorem Expects.gathered {p : Bytes} {off : Nat} {s : State} (h : Expects p off s) (hp : p.length ≤ Config.maxPayload)
    (f : Frame) :
    (opensWith f (BitVec.ofNat 16 (p.length - off)) s).raActive = true ∧
      Gathered p off (opensWith f (BitVec.ofNat 16 (p.length - off)) s) := by
  rcases h with ⟨rfl, closed, canonical⟩ | ⟨_, active, gathered⟩
  · rw [opensWith, if_neg (by simp [closed])]
    refine ⟨rfl, canonical, ?_, rfl, rfl⟩
    exact Nat.mod_eq_of_lt (Nat.lt_succ_of_le hp)
  · rw [opensWith, if_pos active]
    exact ⟨active, gathered⟩

/-- A frame that is not the last of the split is awaited on (R191, R192). -/
theorem Expects.more {p : Bytes} {off cap : Nat} {s : State} (h : Expects p off s) (hp : p.length ≤ Config.maxPayload)
    (hcap : 3 ≤ cap) (hmore : off + cap < p.length) {f : Frame}
    (payload : f.payload = (nextFragment p.length off cap p).payload) (frag : fragFlag f.flags = true) :
    ∃ t, reassemble f s = .awaiting t ∧ Expects p (off + cap - 2) t := by
  obtain ⟨active, gathered⟩ := h.gathered hp f
  obtain ⟨t, append, kept, next⟩ := gathered.append (next := off + cap - 2) (by omega) (by omega)
  refine ⟨t, ?_, .inr ⟨by omega, kept.trans active, next⟩⟩
  rw [nextFragment_more hmore] at payload
  rw [reassemble_more frag payload, rd16_le16_bytes]
  exact append

/-- The last frame of the split delivers the message (R193-R195). -/
theorem Expects.last {p : Bytes} {off cap : Nat} {s : State} (h : Expects p off s) (hoff : off ≤ p.length)
    (hlast : p.length ≤ off + cap) {f : Frame}
    (payload : f.payload = (nextFragment p.length off cap p).payload) (frag : fragFlag f.flags = false) :
    ∃ m t, reassemble f s = .delivered m t ∧ m.payload = p ∧ t.raActive = false := by
  rw [nextFragment_final hlast] at payload
  rcases h with ⟨rfl, closed, _⟩ | ⟨_, active, gathered⟩
  · refine ⟨_, s, reassemble_whole frag closed, ?_, closed⟩
    simp [wholeMessage, payload, slice]
  · rw [reassemble_final frag active, payload]
    exact gathered.complete hoff

/-! ## Feeding the frames -/

theorem feed_awaiting {f : Frame} {s t : State} (h : reassemble f s = .awaiting t) (fs : List Frame) :
    feed (f :: fs) s = feed fs t := by
  simp [feed, h]

theorem feed_delivered {f : Frame} {m : Message} {s t : State} (h : reassemble f s = .delivered m t) :
    feed [f] s = some ([m], t) := by
  simp [feed, h]

/-- The frames deliver `p` and nothing else, at the last of them and not before. -/
def DeliversAtLast (p : Bytes) (frames : List Frame) (s : State) : Prop :=
  ∃ m t u, feed frames s = some ([m], t) ∧ m.payload = p ∧ t.raActive = false ∧ feed frames.dropLast s = some ([], u)

theorem DeliversAtLast.of_delivered {p : Bytes} {f : Frame} {s : State}
    (h : ∃ m t, reassemble f s = .delivered m t ∧ m.payload = p ∧ t.raActive = false) : DeliversAtLast p [f] s := by
  obtain ⟨m, t, delivered, payload, closed⟩ := h
  exact ⟨m, t, s, feed_delivered delivered, payload, closed, rfl⟩

/-- No frames deliver nothing. -/
theorem DeliversAtLast.ne_nil {p : Bytes} {frames : List Frame} {s : State} (h : DeliversAtLast p frames s) :
    frames ≠ [] := by
  rintro rfl
  obtain ⟨m, t, _, delivered, _⟩ := h
  simp [feed] at delivered

theorem DeliversAtLast.of_awaiting {p : Bytes} {f : Frame} {fs : List Frame} {s t : State}
    (h : reassemble f s = .awaiting t) (rest : DeliversAtLast p fs t) : DeliversAtLast p (f :: fs) s := by
  have nonempty := rest.ne_nil
  obtain ⟨m, v, u, delivered, payload, closed, before⟩ := rest
  refine ⟨m, v, u, (feed_awaiting h fs).trans delivered, payload, closed, ?_⟩
  rw [List.dropLast_cons_of_ne_nil nonempty, feed_awaiting h, before]

/-- Settles O14: by induction over the fragments of the split, each frame but the last is awaited on and leaves the
bytes up to its cursor gathered (`Expects.more`), and the last one delivers them (`Expects.last`). -/
theorem splitRoundTrip : Obligations.SplitRoundTrip := by
  intro cap p cls subtype cs ack seq s hcap hp closed canonical
  refine split_induction (cap := cap) (p := p) hcap
    (motive := fun off fragments => ∀ seq s, Expects p off s →
      DeliversAtLast p (numberFrames cls subtype cs ack seq fragments) s)
    (fun off hoff hlast seq s h => ?_) (fun off rest hmore ih seq s h => ?_) seq s (.inl ⟨rfl, closed, canonical⟩)
  · refine .of_delivered (h.last hoff hlast rfl ?_)
    rw [fragFlag_sendFlags, nextFragment_final hlast]
  · obtain ⟨t, awaited, next⟩ := h.more hp hcap hmore
      (f := ⟨cls, subtype, sendFlags cs ack (nextFragment p.length off cap p).frag, seq, _⟩) rfl
      (by rw [fragFlag_sendFlags, nextFragment_more hmore])
    exact .of_awaiting awaited (ih (seq + 1) t next)

end Sys2Proof.Machine
end

section
/-! PROOFS. What a received fragment, and a frame while a reassembly is open, do to a listening block (R188-R199, R300),
from the row of the frame to the state after it. -/

namespace Sys2Proof.Machine

/-! ## Frames that end in a fatal error -/

/-- The frame that DECODE gives of a tail under its class and subtype (R160). -/
abbrev received (cls : FrameClass) (subtype : BitVec 6) (t : FrameTail) : Frame :=
  ⟨cls, subtype, t.flags, t.seq, t.payload⟩

/-- A row's frame that DECODE accepts goes into the pipeline (R126, R300). -/
theorem exec_intact {i : Instr} {cls : FrameClass} {subtype : BitVec 6} {t : FrameTail} {s : State}
    (row : i.frameParts = some ⟨cls.code, subtype, t⟩) (hs : s.sess = .ready) (hf : s.fatal = false)
    (hi : intact t) : exec i s = acceptFrame (received cls subtype t) s :=
  (exec_frame row s).trans (notifyFrame_intact (listening_of hs hf) hi)

/-- The pipeline on a frame below RX_EXP (R212). -/
theorem acceptFrame_below {f : Frame} {s : State} (h : f.seq < s.rxExp) :
    acceptFrame f s = .next (fatalEntry .sequenceViolation s) := by
  rcases acceptFrame_cases f s with ⟨_, e⟩ | ⟨hle, _⟩
  · exact e
  · exact absurd h (BitVec.not_lt.mpr hle)

/-- The pipeline on a Control fragment (R188). -/
theorem acceptFrame_controlFragment {f : Frame} {s : State} (h : s.rxExp ≤ f.seq) (hc : f.cls = .control)
    (hg : fragFlag f.flags = true) :
    acceptFrame f s = .next (fatalEntry .controlFragmented { s with rxExp := nextExpected s f.seq }) := by
  simp only [acceptFrame, seqCheck_ok h, hc, hg, and_self, if_true]

/-- A Data row's frame that SEQ_CHECK passes goes to REASSEMBLE (R300). -/
theorem exec_data {i : Instr} {subtype : BitVec 6} {t : FrameTail} {s : State}
    (row : i.frameParts = some ⟨1, subtype, t⟩) (hs : s.sess = .ready) (hf : s.fatal = false) (hi : intact t)
    (hq : s.rxExp ≤ t.seq) :
    exec i s = afterReassembly (received .data subtype t)
      (reassemble (received .data subtype t) { s with rxExp := nextExpected s t.seq }) :=
  (exec_intact (cls := .data) row hs hf hi).trans (acceptFrame_heard hq fun e => nomatch e.1)

/-- Settles O40: after SEQ_CHECK the Control-fragment check comes first (`acceptFrame_controlFragment`). -/
theorem controlFragmentFatal : Obligations.ControlFragmentFatal := by
  intro i subtype t s row hs hf hi hg hq
  rw [exec_intact (cls := .control) row hs hf hi]
  exact acceptFrame_controlFragment hq rfl hg

/-- Settles O41: REASSEMBLE raises before it looks at RA_ACTIVE (`reassemble_short`). -/
theorem fragmentTooShort : Obligations.FragmentTooShort := by
  intro i subtype t s row hs hf hi hg hp hq
  rw [exec_data row hs hf hi hq, reassemble_short (f := received .data subtype t) hg hp]
  rfl

/-- No event of the fatal entry is a DELIVER (R340). -/
theorem fatalEvents_deliver_none (code : FatalCode) (s : State) : (fatalEvents code s).countP isDeliver = 0 := by
  unfold fatalEvents
  split <;> rfl

/-- Settles O44: SEQ_CHECK ends the pipeline (`acceptFrame_below`), and the fatal entry drops the reassembly, leaves
RA_BUF and emits no DELIVER (`fatalEntry_eq`). -/
theorem sequenceViolation : Obligations.SequenceViolation := by
  intro i cls subtype t s row hs hf hi hq
  refine ⟨?_, by rw [fatalEntry_eq], by rw [fatalEntry_eq], _, fatalEntry_out _ s, fatalEvents_deliver_none _ s⟩
  rw [exec_intact row hs hf hi]
  exact acceptFrame_below hq

/-! ## The data of a frame, appended -/

/-- The state after the copy of data that do not reach the target (R192, R240). -/
def afterCopy (f : Frame) (data : Bytes) (s : State) : State :=
  { s with
    raCount := BitVec.ofNat 16 (s.raCount.toNat + data.length)
    raBuf := copied data s
    ackq := s.ackq ++ frameOwes f s }

/-- The sequence of the anchor that a delivered Data message adds to ACKQ under PER_DELIVERY (R240, R241). -/
def anchorOwes (s : State) : Bytes :=
  if s.params.ackPolicy = .perDelivery ∧ ackFlag s.raFlags = true then [s.raSeq] else []

/-- The state after data that reach the target: the message is delivered under the anchor's identity, the registers of
the reassembly are cleared (R194, R240, R260). -/
def afterCompletion (f : Frame) (data : Bytes) (s : State) : State :=
  { clearReassembly s with
    raBuf := copied data s
    ackq := s.ackq ++ frameOwes f s ++ anchorOwes s
    out := s.out ++ [deliverEvent (BitVec.ofNat 8 (1 + 4 * s.raSubtype.toNat)) s.raSeq s.raFlags
      (readBytes s.raBuf 0 s.raCount.toNat ++ data)] }

theorem afterReassembly_beyond {data : Bytes} {s : State} (f : Frame)
    (h : s.raTarget.toNat < s.raCount.toNat + data.length) :
    afterReassembly f (appendData data s) = .next (fatalEntry .fragmentOverflow s) := by
  rw [appendData_beyond h]
  rfl

theorem afterReassembly_below {data : Bytes} {s : State} (f : Frame)
    (h : s.raCount.toNat + data.length < s.raTarget.toNat) :
    afterReassembly f (appendData data s) = .next (afterCopy f data s) := by
  rw [appendData_below h, afterReassembly, oweFrameAck_eq]
  rfl

/-- A reassembly is anchored by a Data frame, so its message is delivered and not taken for an ACK (R197, R261). -/
theorem afterReassembly_reaches {data : Bytes} {s : State} (f : Frame) (hbuf : bufferWf s.raBuf = true)
    (anchor : s.raClass = .data) (h : s.raCount.toNat + data.length = s.raTarget.toNat) :
    afterReassembly f (appendData data s) = .next (afterCompletion f data s) := by
  have owes (p : Bytes) : messageOwes ⟨.data, s.raSubtype, s.raSeq, s.raFlags, p⟩ s = anchorOwes s := by
    simp [messageOwes, anchorOwes]
  rw [appendData_reaches hbuf h, anchor, afterReassembly, finishMessage_delivers (by simp),
    oweMessageAck_eq, oweFrameAck_eq, packByte0_eq, afterCompletion, ← owes]
  rfl

/-- RA_BUF after a copy within the target, byte by byte (R94). -/
theorem readByte_copied {data : Bytes} {s : State} (hbuf : bufferWf s.raBuf = true)
    (h : s.raCount.toNat + data.length ≤ s.raTarget.toNat) (a : Nat) :
    readByte (copied data s) a =
      if s.raCount.toNat ≤ a ∧ a < s.raCount.toNat + data.length then data.getD (a - s.raCount.toNat) 0
      else readByte s.raBuf a :=
  readByte_writeBytes hbuf (copy_inside h) a

/-! ## A frame while a reassembly is open -/

/-- A frame's data: its payload, without its own count where more fragments follow (R191, R192). -/
def fragmentData (t : FrameTail) : Bytes := if fragFlag t.flags then t.payload.drop 2 else t.payload

/-- REASSEMBLE appends the data of every frame that has room for its count while a reassembly is open (R192, R197). -/
theorem reassemble_open {cls : FrameClass} {subtype : BitVec 6} {t : FrameTail} {s : State} (active : s.raActive = true)
    (room : fragFlag t.flags = true → 2 ≤ t.payload.length) :
    reassemble (received cls subtype t) s = appendData (fragmentData t) s := by
  unfold fragmentData
  by_cases more : fragFlag t.flags = true
  · obtain ⟨lo, hi, data, payload⟩ : ∃ lo hi data, t.payload = lo :: hi :: data := by
      match h : t.payload, room more with
      | lo :: hi :: data, _ => exact ⟨lo, hi, data, rfl⟩
    rw [if_pos more, reassemble_more (f := received cls subtype t) more payload, if_pos active, payload]
    rfl
  · rw [if_neg more, reassemble_final (f := received cls subtype t) (Bool.eq_false_iff.mpr more) active]

/-- Settles O43: the pipeline appends the frame's data (`reassemble_open`), and the three cases are those of the copy
(`afterReassembly_beyond`, `afterReassembly_below`, `afterReassembly_reaches`). -/
theorem reassemblyContinues : Obligations.ReassemblyContinues := by
  intro i cls subtype t s row hs hf active anchor hi notControl room hq hbuf
  have appended := (exec_intact row hs hf hi).trans (acceptFrame_heard hq notControl)
  rw [reassemble_open (s := { s with rxExp := nextExpected s t.seq }) active room] at appended
  refine ⟨fun h => ?_, fun h => ⟨copied (fragmentData t) s, ?_, ?_, fun hlt => ?_, fun heq => ?_⟩⟩
  · exact appended.trans (afterReassembly_beyond _ h)
  · exact writeBytes_wf hbuf (copy_inside h)
  · exact readByte_copied hbuf h
  · exact appended.trans (afterReassembly_below _ hlt)
  · exact appended.trans (afterReassembly_reaches _ hbuf anchor heq)

/-! ## The first fragment -/

/-- The fatal entry leaves nothing of the reassembly that the first fragment opened (R340). -/
theorem fatalEntry_startReassembly (code : FatalCode) (f : Frame) (target : Half) (s : State) :
    fatalEntry code (startReassembly f target s) = fatalEntry code s := by
  rw [fatalEntry_eq, fatalEntry_eq]
  rfl

/-- The reassembly that a first fragment with the count `target` opens (R191). -/
def openedBy (subtype : BitVec 6) (t : FrameTail) (target : Nat) (s : State) : State :=
  startReassembly (received .data subtype t) (BitVec.ofNat 16 target)
    { s with rxExp := nextExpected s t.seq }

theorem openedBy_target {lo hi : Byte} (subtype : BitVec 6) (t : FrameTail) (s : State) :
    (openedBy subtype t (lo.toNat + 256 * hi.toNat) s).raTarget.toNat = lo.toNat + 256 * hi.toNat :=
  Nat.mod_eq_of_lt (Nat.lt_succ_of_le (count_le_maxPayload lo hi))

theorem openedBy_count (subtype : BitVec 6) (t : FrameTail) (target : Nat) (s : State) (data : Bytes) :
    (openedBy subtype t target s).raCount.toNat + data.length = data.length := Nat.zero_add _

/-- A first fragment owes its sequence under PER_FRAME (R240). -/
theorem frameOwes_openedBy (subtype : BitVec 6) (t : FrameTail) (target : Nat) (s : State) :
    frameOwes (received .data subtype t) (openedBy subtype t target s) =
      if s.params.ackPolicy = .perFrame ∧ t.flags.getLsbD 3 = true then [t.seq] else [] := by
  simp [frameOwes, openedBy, ackFlag]

/-- The one fragment of a message that it completes owes its sequence under either policy (R240). -/
theorem owes_openedBy (subtype : BitVec 6) (t : FrameTail) (target : Nat) (s : State) :
    frameOwes (received .data subtype t) (openedBy subtype t target s) ++
        anchorOwes (openedBy subtype t target s) = if t.flags.getLsbD 3 = true then [t.seq] else [] := by
  cases hp : s.params.ackPolicy <;> simp [frameOwes, anchorOwes, openedBy, ackFlag, hp]

/-- A first fragment's data are appended to the reassembly it opens (R191, R300). -/
theorem exec_firstFragment {i : Instr} {subtype : BitVec 6} {t : FrameTail} {lo hi : Byte} {data : Bytes} {s : State}
    (row : i.frameParts = some ⟨1, subtype, t⟩) (hs : s.sess = .ready) (hf : s.fatal = false)
    (closed : s.raActive = false) (hint : intact t) (more : fragFlag t.flags = true)
    (payload : t.payload = lo :: hi :: data) (hq : s.rxExp ≤ t.seq) :
    exec i s = afterReassembly (received .data subtype t)
      (appendData data (openedBy subtype t (lo.toNat + 256 * hi.toNat) s)) := by
  have fits : BitVec.ofNat 16 (lo.toNat + 256 * hi.toNat) = rd16 lo hi := by
    rw [← rd16_toNat, BitVec.ofNat_toNat, BitVec.setWidth_eq]
  rw [exec_data row hs hf hint hq, reassemble_more (f := received .data subtype t) more payload,
    if_neg (by simp [closed]), openedBy, fits]

/-- Settles O42: the fragment's data are appended to the reassembly it opens (`exec_firstFragment`), whose count is 0,
and the three cases are those of the copy. -/
theorem firstFragment : Obligations.FirstFragment := by
  intro i subtype t lo hi data s row hs hf closed hint more payload hq hbuf
  have appended := exec_firstFragment row hs hf closed hint more payload hq
  have target := openedBy_target (lo := lo) (hi := hi) subtype t s
  have count := openedBy_count subtype t (lo.toNat + 256 * hi.toNat) s data
  refine ⟨fun h => ?_, fun h => ?_⟩
  · rw [appended, afterReassembly_beyond _ (by rwa [count, target]), openedBy, fatalEntry_startReassembly]
  have canonical : bufferWf (openedBy subtype t (lo.toNat + 256 * hi.toNat) s).raBuf = true := hbuf
  have room := (count.le.trans h).trans target.ge
  refine ⟨_, writeBytes_wf canonical (copy_inside room), fun a => ?_, fun hlt => ?_, fun heq => ?_⟩
  · rw [← copied, readByte_copied canonical room, count]
    simp [openedBy]
  · rw [appended, afterReassembly_below _ (by rwa [count, target]), afterCopy, count, frameOwes_openedBy]
    rfl
  · rw [appended, afterReassembly_reaches _ canonical rfl (by rwa [count, target]), afterCompletion, List.append_assoc,
      owes_openedBy]
    simp only [closed] -- RA_ACTIVE was 0 before the fragment and is 0 after it
    rfl

end Sys2Proof.Machine
end

section
/-! PROOFS. A whole SEND without acknowledgement (R181, R183, R234, R245, R251): each WRITE_DONE issues the next
fragment of the split, and the last one ends the SEND. -/

namespace Sys2Proof.Machine

/-! ## One transaction -/

/-- A transaction whose rule leads to a next state goes on to the arbiter (R16). -/
theorem transact_next {b : Bytes} {i : Instr} {s v : State} (hd : decode .input b = .ok i) (he : exec i s = .next v) :
    transact b s = arbiter v := by
  simp [transact, hd, he, thenArbiter]

theorem transactAll_cons {b : Bytes} {s v : State} (h : transact b s = .next v) (bs : List Bytes) :
    transactAll (b :: bs) s = transactAll bs v := by
  simp [transactAll, h]

/-- With nothing to issue the arbiter waits (R245). -/
theorem arbiter_idle {s : State} (hq : s.ackq = []) (hs : s.txState ≠ .issue) : arbiter s = .next s := by
  rcases arbiter_cases s with ⟨_, e⟩ | ⟨_, _, _, _, h, _⟩ | ⟨_, _, _, h, _⟩
  · exact e
  · simp [hq] at h
  · exact absurd h hs

/-- With ACKQ empty the arbiter issues the next frame of the SEND (R245). -/
theorem arbiter_issue {s : State} (hb : s.portBusy = false) (hl : listening s = true) (hq : s.ackq = [])
    (hs : s.txState = .issue) : arbiter s = .next (issued s) := by
  rcases arbiter_cases s with ⟨h, _⟩ | ⟨_, _, _, _, h, _⟩ | ⟨_, _, _, _, e⟩
  · simp [hb, hl, hs] at h
  · simp [hq] at h
  · exact e

/-! ## The progress of the SEND -/

/-- A SEND of `p` that asks for no acknowledgement is about to issue the fragment at cursor `off` (R39, R181). -/
structure Sending (cap : Nat) (p : Bytes) (off : Nat) (s : State) : Prop where
  listens : listening s = true
  port_free : s.portBusy = false
  ackq_empty : s.ackq = []
  issue : s.txState = .issue
  no_ack : s.txAckReq = false
  length : s.txLen.toNat = p.length
  cursor : s.txOff.toNat = off
  payload : readBytes s.txBuf 0 p.length = p
  capacity : capEff s = cap

theorem Sending.arbiter {cap off : Nat} {p : Bytes} {s : State} (h : Sending cap p off s) :
    arbiter s = .next (issued s) := arbiter_issue h.port_free h.listens h.ackq_empty h.issue

/-- What the arbiter issues is the fragment of the split (R181, R183). -/
theorem Sending.fragment {cap off : Nat} {p : Bytes} {s : State} (h : Sending cap p off s) :
    currentFragment s = nextFragment p.length off cap p := by
  rw [currentFragment, h.length, h.cursor, h.capacity, h.payload]

/-- The state after the frame's write is done (R234, R305). -/
def written (s : State) : State :=
  { issued s with
    portBusy := false
    pendAcked := false
    txState := if !(currentFragment s).frag then .idle else .issue
    out := (issued s).out ++ if !(currentFragment s).frag then [[0xC1, 0x02, 0x00, 0]] else [] }

/-- The completed write of a frame of the SEND that asks for no acknowledgement advances the SEND (R305). -/
theorem execWriteDone_unacknowledged {s : State} (busy : s.portBusy = true) (owner : s.portOwner = .send)
    (hs : s.txState = .writeWait) (h : s.txAckReq = false) :
    exec (.writeDone 0) s = .next (advance { s with portBusy := false, pendAcked := false }) := by
  simp [exec, execWriteDone, sendWriteDone, busy, owner, hs, h]

theorem execWriteDone_issued {s : State} (h : s.txAckReq = false) :
    exec (.writeDone 0) (issued s) = .next (written s) := by
  rw [execWriteDone_unacknowledged (s := issued s) rfl rfl rfl h, advance_eq]
  rfl

theorem decode_writeDone (st : Byte) : decode .input [0x81, st] = .ok (.writeDone st) := rfl

/-- The write of the final fragment ends the SEND (R234). -/
theorem Sending.last {cap off : Nat} {p : Bytes} {s : State} (h : Sending cap p off s) (hlast : p.length ≤ off + cap) :
    transact [0x81, 0x00] (issued s) = .next (written s) ∧ (written s).txState = .idle ∧
      (written s).out = (issued s).out ++ [[0xC1, 0x02, 0x00, 0x00]] := by
  have final : (currentFragment s).frag = false := by rw [h.fragment, nextFragment_final hlast]
  have idle : (written s).txState = .idle := by simp [written, final]
  refine ⟨?_, idle, by simp [written, final]⟩
  rw [transact_next (decode_writeDone 0) (execWriteDone_issued h.no_ack)]
  exact arbiter_idle h.ackq_empty (by simp [idle])

/-- The write of any other fragment brings the next one (R234, R245). -/
theorem Sending.more {cap off : Nat} {p : Bytes} {s : State} (h : Sending cap p off s)
    (hmore : off + cap < p.length) :
    transact [0x81, 0x00] (issued s) = .next (issued (written s)) ∧ Sending cap p (off + cap - 2) (written s) ∧
      (written s).out = (issued s).out := by
  have frag : (currentFragment s).frag = true := by rw [h.fragment, nextFragment_more hmore]
  have next : (currentFragment s).off = off + cap - 2 := by rw [h.fragment, nextFragment_more hmore]
  have small : (off + cap - 2) % 2 ^ 16 = off + cap - 2 := by
    have := h.length ▸ s.txLen.isLt
    omega
  have sending : Sending cap p (off + cap - 2) (written s) :=
    { listens := h.listens
      port_free := rfl
      ackq_empty := h.ackq_empty
      issue := by simp [written, frag]
      no_ack := h.no_ack
      length := h.length
      cursor := by simp only [written, issued, next, BitVec.toNat_ofNat, small]
      payload := h.payload
      capacity := h.capacity }
  refine ⟨?_, sending, by simp [written, frag]⟩
  rw [transact_next (decode_writeDone 0) (execWriteDone_issued h.no_ack), sending.arbiter]

/-- One WRITE_DONE for each fragment emits the frames numbered on from TX_SEQ, the first of them being issued already,
and ends the SEND. -/
def Completes (fragments : List Fragment) (s : State) : Prop :=
  ∃ t, transactAll (List.replicate fragments.length [0x81, 0x00]) (issued s) = .next t ∧
    t.out = s.out ++ (numberFrames s.txClass s.txSubtype s.txCs false s.txSeq fragments).map
      (fun f => 0xC0 :: encodeFrame Config.crc16 f) ++ [[0xC1, 0x02, 0x00, 0x00]] ∧
    t.txState = .idle ∧ t.txSeq = s.txSeq + BitVec.ofNat 8 fragments.length

/-- The event of the fragment that is issued (R131, R245). -/
theorem Sending.issued_out {cap off : Nat} {p : Bytes} {s : State} (h : Sending cap p off s) :
    (issued s).out = s.out ++ [0xC0 :: encodeFrame Config.crc16
      ⟨s.txClass, s.txSubtype, sendFlags s.txCs false (nextFragment p.length off cap p).frag, s.txSeq,
        (nextFragment p.length off cap p).payload⟩] := by
  rw [← h.fragment, ← h.no_ack]
  rfl

theorem Sending.completes_final {cap off : Nat} {p : Bytes} {s : State} (h : Sending cap p off s)
    (hlast : p.length ≤ off + cap) : Completes [nextFragment p.length off cap p] s := by
  obtain ⟨done, idle, out⟩ := h.last hlast
  refine ⟨written s, ?_, ?_, idle, rfl⟩
  · exact transactAll_cons done []
  · rw [out, h.issued_out]
    rfl

theorem Sending.completes_more {cap off : Nat} {p : Bytes} {s : State} {rest : List Fragment}
    (h : Sending cap p off s) (hmore : off + cap < p.length)
    (ih : ∀ u, Sending cap p (off + cap - 2) u → Completes rest u) :
    Completes (nextFragment p.length off cap p :: rest) s := by
  obtain ⟨done, next, out⟩ := h.more hmore
  obtain ⟨t, run, events, idle, seq⟩ := ih (written s) next
  refine ⟨t, (transactAll_cons done _).trans run, ?_, idle, ?_⟩
  · rw [events, out, h.issued_out]
    simp only [numberFrames, List.map_cons, List.append_assoc, List.cons_append, List.nil_append]
    rfl
  · rw [seq, List.length_cons, Nat.add_comm, BitVec.ofNat_add, ← BitVec.add_assoc]
    rfl

/-- A SEND without acknowledgement completes (R183, R251). -/
theorem Sending.completes {cap : Nat} {p : Bytes} {s : State} (hcap : 3 ≤ cap) (h : Sending cap p 0 s) :
    Completes (split cap p) s :=
  split_induction (motive := fun off fragments => ∀ s, Sending cap p off s → Completes fragments s) hcap
    (fun _ _ hlast _ h => h.completes_final hlast) (fun _ _ hmore ih _ h => h.completes_more hmore ih) s h

/-! ## The SEND itself -/

/-- TX_BUF reads as the payload it holds. -/
theorem readBytes_of_readByte {b : Buffer} {p : Bytes} (h : ∀ a < p.length, readByte b a = p.getD a 0) :
    readBytes b 0 p.length = p := by
  rw [readBytes_eq_ofFn]
  apply List.ext_getElem (by simp)
  intro i _ hi
  simp [h i hi, hi]

/-- A SEND without acknowledgement that a sound idle block accepts is about to issue its first fragment, all else being
latched as given (R294). -/
theorem exec_send_sending {s : State} {b0 opts : Byte} (timeout : Half) {p : Bytes} (sound : Sound s)
    (ready : s.sess = .ready) (alive : s.fatal = false) (idle : s.txState = .idle) (free : s.portBusy = false)
    (hlen : p.length ≤ 65535) (hopts : opts.toNat < 4) (hack : opts.getLsbD 0 = false) (hcls : b0.toNat % 4 < 2)
    (hcontrol : b0.toNat % 4 = 0 → p.length ≤ min s.cap.toNat 255) :
    ∃ v, exec (.send (.message b0 opts timeout p)) s = .next v ∧ Sending (min s.cap.toNat 255) p 0 v ∧
      v.txClass = (if b0.toNat % 4 = 0 then .control else .data) ∧ v.txSubtype = BitVec.ofNat 6 (b0.toNat / 4) ∧
      v.txCs = opts.getLsbD 1 ∧ v.txSeq = s.txSeq ∧ v.out = s.out := by
  have listens := listening_of ready alive
  obtain ⟨buf, accepted, _, held⟩ := sendAccepted b0 opts timeout p s hlen sound.buffers_wf.1 hopts hcls ready alive idle
    (fun h => ⟨fun ⟨_, ha⟩ => Bool.false_ne_true (hack.symm.trans ha), hcontrol h⟩)
  refine ⟨_, accepted, ?_, rfl, rfl, rfl, rfl, rfl⟩
  exact
    { listens := listens
      port_free := free
      ackq_empty := (sound.settled listens free).1
      issue := rfl
      no_ack := hack
      length := Nat.mod_eq_of_lt (Nat.lt_succ_of_le hlen)
      cursor := rfl
      payload := readBytes_of_readByte fun a ha => by rw [held, if_pos ha]
      capacity := rfl }

/-- Settles O33: the SEND is accepted (`exec_send_sending`) and the arbiter issues its first fragment; the rest is an
induction over the fragments of the split (`Sending.completes`). -/
theorem wholeSend : Obligations.WholeSend := by
  intro s b0 opts timeout p sound ready alive idle free hlen hopts hack hcls hcontrol
  have capacity : 3 ≤ min s.cap.toNat 255 := by
    have : 3 ≤ s.cap.toNat := sound.cap_when_ready ready
    omega
  obtain ⟨v, accepted, sending, cls, subtype, cs, seq, out⟩ :=
    exec_send_sending timeout sound ready alive idle free hlen hopts hack hcls hcontrol
  have decoded := decodeEncode (.send (.message b0 opts timeout p)) (decide_eq_true hlen)
  have sent := (transact_next decoded accepted).trans sending.arbiter
  obtain ⟨t, run, events, done, numbered⟩ := sending.completes capacity
  rw [cls, subtype, cs, seq, out] at events
  rw [seq] at numbered
  exact ⟨t, (transactAll_cons sent _).trans run, events, done, numbered⟩

end Sys2Proof.Machine
end

section
/-! PROOFS. The sequencer (R210-R213): TX_SEQ over any number of calls of SEQ_NEXT, and SEQ_CHECK in arithmetic. -/

namespace Sys2Proof.Machine

/-! ## SEQ_NEXT -/

/-- TX_SEQ after `n` calls of SEQ_NEXT is advanced by `n` modulo 256 (R210). -/
theorem seqNext_iterate_txSeq (n : Nat) (s : State) :
    ((fun t => (seqNext t).2)^[n] s).txSeq = s.txSeq + BitVec.ofNat 8 n := by
  induction n with
  | zero => exact (BitVec.add_zero _).symm
  | succ n ih =>
    rw [Function.iterate_succ_apply', seqNext_txSeq, ih, BitVec.ofNat_add, BitVec.add_assoc]
    rfl

/-- Settles O15: 256 calls advance TX_SEQ by 256 (`seqNext_iterate_txSeq`), which is 0 modulo 256. -/
theorem sequenceWraps : Obligations.SequenceWraps := by
  intro s
  have wraps : BitVec.ofNat 8 256 = 0#8 := by decide
  rw [seqNext_iterate_txSeq, wraps, BitVec.add_zero]

/-! ## SEQ_CHECK -/

/-- INCREMENT (R212). -/
theorem nextExpected_increment {s : State} (q : Byte) (h : s.params.rxSeqUpdate = .increment) :
    nextExpected s q = BitVec.ofNat 8 (s.rxExp.toNat + 1) := by
  simp [nextExpected, h, BitVec.ofNat_add]

/-- RESYNC (R212). -/
theorem nextExpected_resync {s : State} (q : Byte) (h : s.params.rxSeqUpdate = .resync) :
    nextExpected s q = BitVec.ofNat 8 (q.toNat + 1) := by
  simp [nextExpected, h, BitVec.ofNat_add]

/-- On a frame of exactly the expected sequence the two updates agree: RX_EXP counts up by one (R212). -/
theorem nextExpected_rxExp (s : State) : nextExpected s s.rxExp = s.rxExp + 1 := by
  cases h : s.params.rxSeqUpdate with
  | increment => simp [nextExpected_increment _ h, BitVec.ofNat_add]
  | resync => simp [nextExpected_resync _ h, BitVec.ofNat_add]

/-- SEQ_CHECK refuses a sequence below RX_EXP (R212). -/
theorem seqCheck_error {q : Byte} {s : State} (h : q < s.rxExp) : seqCheck q s = .error .sequenceViolation := by
  rcases seqCheck_cases q s with ⟨_, h'⟩ | ⟨h', _⟩
  · exact h'
  · exact absurd h (BitVec.not_lt.mpr h')

/-- Settles O16: the two outcomes of SEQ_CHECK (`seqCheck_error`, `seqCheck_ok`), the update by each parameter value; in
the worked example the first frame moves RX_EXP to 1, so that its repetition is below it. -/
theorem seqCheckRule : Obligations.SeqCheckRule := by
  constructor
  · intro q s
    split
    case isTrue below => exact seqCheck_error (BitVec.lt_def.mpr below)
    case isFalse reached =>
      rw [seqCheck_ok (BitVec.le_def.mpr (Nat.le_of_not_lt reached))]
      cases h : s.params.rxSeqUpdate with
      | increment => rw [nextExpected_increment q h]
      | resync => rw [nextExpected_resync q h]
  · intro s u expected accepted
    obtain rfl : { s with rxExp := nextExpected s 0 } = u :=
      Except.ok.inj ((seqCheck_ok (BitVec.le_of_eq expected)).symm.trans accepted)
    have advanced : nextExpected s 0 = 1 := by
      rw [← expected, nextExpected_rxExp, expected]
      rfl
    have repeated : 0 < nextExpected s 0 := by
      rw [advanced]
      decide
    exact ⟨advanced, seqCheck_error repeated⟩

end Sys2Proof.Machine
end

section
/-! PROOFS. The TX arbiter (R245): each of its branches, the bytes of an automatic ACK (R112, R242), and what the arbiter
leaves alone while no SEND has a frame to issue. -/

namespace Sys2Proof.Machine

/-! ## The branches -/

/-- While a write is outstanding or the block does not listen the arbiter issues nothing (R245). -/
theorem arbiter_blocked {s : State} (h : s.portBusy = true ∨ listening s = false) : arbiter s = .next s := by
  unfold arbiter
  rcases h with h | h <;> simp [h]

/-- The automatic ACK at the head of ACKQ comes before a SEND's frame (R245). -/
theorem arbiter_ack {s : State} {a : Byte} {rest : Bytes} (hb : s.portBusy = false) (hl : listening s = true)
    (hq : s.ackq = a :: rest) : arbiter s = .next (issueAck a rest s) := by
  simp [arbiter, hb, hl, hq]

/-- With no frame to issue for the SEND, and no ACK owed or the port busy, the arbiter waits (R245). -/
theorem arbiter_rests {s : State} (hs : s.txState ≠ .issue) (rests : s.portBusy = true ∨ s.ackq = []) :
    arbiter s = .next s := by
  rcases rests with busy | empty
  · exact arbiter_blocked (.inl busy)
  · exact arbiter_idle empty hs

/-- With no frame of a SEND to issue the arbiter moves ACKQ, TX_SEQ, the port and the events only (R245). -/
theorem arbiter_unissued {s t : State} (hs : s.txState ≠ .issue) (h : arbiter s = .next t) :
    t = { s with
      ackq := t.ackq, txSeq := t.txSeq, portBusy := t.portBusy, portOwner := t.portOwner, out := t.out } := by
  rcases arbiter_cases s with ⟨_, e⟩ | ⟨_, _, a, rest, _, e⟩ | ⟨_, _, _, hi, _⟩
  · cases e.symm.trans h
    rfl
  · cases e.symm.trans h
    rfl
  · exact absurd hi hs

/-- The flags byte of a sent frame, as arithmetic (R102, R245). -/
theorem sendFlags_eq (cs ack frag : Bool) :
    sendFlags cs ack frag = BitVec.ofNat 8 (2 * cs.toNat + 8 * ack.toNat + 16 * frag.toNat) := by
  revert cs ack frag
  decide

/-- Settles O17: the branches of the arbiter (`arbiter_blocked`, `arbiter_ack`, `arbiter_idle`, `arbiter_issue`); a SEND
that asks for an ACK writes the record of the pending frame, another leaves it (`issued`). -/
theorem arbiterRule : Obligations.ArbiterRule := by
  intro s
  refine ⟨fun blocked => arbiter_blocked ?_, fun free ready alive => ?_⟩
  · exact blocked.imp_right fun deaf => Bool.eq_false_iff.mpr fun hl => by
      obtain ⟨ready, alive⟩ := listening_iff.mp hl
      simp [ready, alive] at deaf
  have listens := listening_of ready alive
  refine ⟨fun a rest hq => arbiter_ack free listens hq, arbiter_idle, fun hq hs => ?_⟩
  rw [arbiter_issue free listens hq hs]
  simp only [← sendFlags_eq]
  cases hreq : s.txAckReq <;> simp [issued, currentFragment, sendFrame, capEff, Config.maxFramePayload, hreq]

/-! ## The automatic ACK -/

/-- The automatic ACK carries a checksum, and no other flag (R112). -/
theorem ackFrame_flags (seq a : Byte) : (ackFrame seq a).flags = 0x02 := by
  change sendFlags true false false = 0x02
  decide

/-- The bytes of the automatic ACK of `a` (R242). -/
theorem encodeFrame_ackFrame (crc : Config.Crc) (seq a : Byte) :
    encodeFrame crc (ackFrame seq a) = [0x00, 0x02, seq, 0x01, a] ++ twoBytes (checksum crc seq 1 [a]).toNat := by
  have cs : csFlag (ackFrame seq a).flags = true := by rw [ackFrame_flags]; decide
  rw [encodeFrame, frameFields_checked cs, ackFrame_flags, twoBytes, ← le16_eq]
  simp [FrameParts.bytes, packByte0_eq, ackFrame, FrameClass.code, ackSubtype, payloadChecksum]

/-- Settles O18: the arbiter's first branch (`arbiter_ack`), its frame written out (`encodeFrame_ackFrame`). -/
theorem automaticAckFrame : Obligations.AutomaticAckFrame := by
  intro s a rest free ready alive hq
  rw [arbiter_ack free (listening_of ready alive) hq, List.cons_append, ← encodeFrame_ackFrame]
  rfl

end Sys2Proof.Machine
end

section
/-! PROOFS. The ACK tracker (R230-R236, R248, R249): a TICK, what a Control/ACK frame resolves, and the SEND that waits for
its ACK until the ACK or the last TICK comes. -/

namespace Sys2Proof.Machine

/-! ## TICK -/

/-- The record with `n` ticks left (R236). -/
def withTicks (n : Nat) (s : State) : State := { s with pendRemain := BitVec.ofNat 16 n }

/-- The state after the last tick (R236). -/
def timedOut (s : State) : State :=
  { s with
    pendRemain := 0
    pendValid := false
    txState := .idle
    out := s.out ++ [[0xC1, 0x02, 0x05, 0x00]] }

/-- A TICK while no ACK is awaited (R236). -/
theorem timerStep_disarmed {s : State} (h : ¬(s.pendValid = true ∧ s.txState = .ackWait)) : timerStep s = s := by
  rcases timerStep_cases s with ⟨_, e⟩ | ⟨hv, hs, _⟩ | ⟨hv, hs, _⟩
  · exact e
  · exact absurd ⟨hv, hs⟩ h
  · exact absurd ⟨hv, hs⟩ h

/-- A TICK that is not the last counts (R236). -/
theorem timerStep_counts {s : State} {n : Nat} (hv : s.pendValid = true) (hs : s.txState = .ackWait)
    (hn : s.pendRemain.toNat = n + 1) (more : n ≠ 0) : timerStep s = withTicks n s := by
  have left : s.pendRemain - 1 = BitVec.ofNat 16 n := by bv_omega
  rcases timerStep_cases s with ⟨h, _⟩ | ⟨_, _, _, e⟩ | ⟨_, _, h, _⟩
  · exact absurd ⟨hv, hs⟩ h
  · rw [e, left, withTicks]
  · exact absurd (by simpa [h] using hn.symm) more

/-- The last TICK ends the SEND (R236). -/
theorem timerStep_expires {s : State} (hv : s.pendValid = true) (hs : s.txState = .ackWait)
    (hn : s.pendRemain.toNat = 1) : timerStep s = timedOut s := by
  rcases timerStep_cases s with ⟨h, _⟩ | ⟨_, _, h, _⟩ | ⟨_, _, _, e⟩
  · exact absurd ⟨hv, hs⟩ h
  · exact absurd (BitVec.eq_of_toNat_eq hn) h
  · exact e

theorem exec_tick (s : State) : exec .tick s = .next (timerStep s) := rfl

/-- Settles O30: the three cases of the timer step (`timerStep_disarmed`, `timerStep_counts`, `timerStep_expires`). -/
theorem tickRule : Obligations.TickRule := by
  intro s
  refine ⟨fun h => ?_, fun hv hs hn => ?_, fun hv hs hn => ?_⟩
  · rw [exec_tick, timerStep_disarmed h]
  · rw [exec_tick, timerStep_counts (n := s.pendRemain.toNat - 1) hv hs (by omega) (by omega)]
    rfl
  · rw [exec_tick, timerStep_expires hv hs hn]
    rfl

/-! ## The wait for the ACK -/

/-- A SEND awaits the ACK of the frame it wrote, and the arbiter has nothing to issue (R231, R245). -/
structure Waiting (s : State) : Prop where
  pending : s.pendValid = true
  ackWait : s.txState = .ackWait
  rests : s.portBusy = true ∨ s.ackq = []

theorem transact_tick (s : State) : transact [0x82] s = arbiter (timerStep s) := transact_next rfl (exec_tick s)

theorem Waiting.counted {s : State} (h : Waiting s) (n : Nat) : Waiting (withTicks n s) :=
  ⟨h.pending, h.ackWait, h.rests⟩

/-- A TICK that is not the last only counts (R249). -/
theorem Waiting.tick_counts {s : State} {n : Nat} (h : Waiting s) (hn : s.pendRemain.toNat = n + 1) (more : n ≠ 0) :
    transact [0x82] s = .next (withTicks n s) := by
  rw [transact_tick, timerStep_counts h.pending h.ackWait hn more]
  exact arbiter_rests (by simp [withTicks, h.ackWait]) h.rests

/-- The last TICK ends the SEND (R249). -/
theorem Waiting.tick_expires {s : State} (h : Waiting s) (hn : s.pendRemain.toNat = 1) :
    transact [0x82] s = .next (timedOut s) := by
  rw [transact_tick, timerStep_expires h.pending h.ackWait hn]
  exact arbiter_rests nofun h.rests

/-- Transactions that lead to a next state go on to those after them (R16). -/
theorem transactAll_append {bs : List Bytes} {s v : State} (h : transactAll bs s = .next v) (cs : List Bytes) :
    transactAll (bs ++ cs) s = transactAll cs v := by
  induction bs generalizing s with
  | nil =>
    cases h
    rfl
  | cons b bs ih =>
    cases hb : transact b s with
    | next u =>
      rw [transactAll_cons hb] at h
      exact (transactAll_cons hb _).trans (ih h)
    | fault r => simp [transactAll, hb] at h
    | refused r => simp [transactAll, hb] at h

/-- Fewer TICKs than are left only count (R249). -/
theorem Waiting.ticks_count {s : State} (h : Waiting s) {k n : Nat} (hn : s.pendRemain.toNat = n + k) (more : n ≠ 0) :
    transactAll (List.replicate k [0x82]) s = .next (withTicks n s) := by
  have bound := s.pendRemain.isLt
  induction k generalizing s with
  | zero =>
    have same : BitVec.ofNat 16 n = s.pendRemain := by bv_omega
    simp [transactAll, withTicks, same]
  | succ k ih =>
    rw [List.replicate_succ, transactAll_cons (h.tick_counts (n := n + k) hn (by omega))]
    exact ih (h.counted (n + k)) (Nat.mod_eq_of_lt (by omega)) (BitVec.isLt _)

/-- As many TICKs as are left end the SEND (R249). -/
theorem Waiting.ticks_expire {s : State} (h : Waiting s) {k : Nat} (hk : s.pendRemain.toNat = k + 1) :
    transactAll (List.replicate (k + 1) [0x82]) s = .next (timedOut s) := by
  have counted := h.ticks_count (hk.trans (Nat.add_comm k 1)) Nat.one_ne_zero
  rw [List.replicate_succ', transactAll_append counted]
  exact transactAll_cons ((h.counted 1).tick_expires rfl) []

/-! ## The timeout law -/

/-- Nothing waits for the arbiter of a sound state in which an ACK is awaited (R298). -/
theorem Sound.waiting {s : State} (h : Sound s) (hs : s.txState = .ackWait) : Waiting s where
  pending := (h.ackWait_pending hs).1
  ackWait := hs
  rests := by
    cases hb : s.portBusy with
    | true => exact .inl rfl
    | false => exact .inr (h.settled (h.coherent.listening_of_busy (by simp [hs])) hb).1

/-- The completed write of a frame whose ACK is still due starts the timer (R231, R305). -/
theorem execWriteDone_arms {s : State} (port : s.portBusy = true ∧ s.portOwner = .send) (hs : s.txState = .writeWait)
    (hreq : s.txAckReq = true) (due : s.pendAcked = false) :
    exec (.writeDone 0) s = .next (arm { s with portBusy := false }) := by
  obtain ⟨busy, owner⟩ := port
  simp [exec, execWriteDone, sendWriteDone, busy, owner, hs, hreq, due]

/-- Settles O31: the WRITE_DONE starts the timer (`execWriteDone_arms`), an automatic ACK at most follows it
(`arbiter_unissued`), and the step leaves a sound state; the TICKs are an induction (`Waiting.ticks_count`,
`Waiting.ticks_expire`). -/
theorem timeoutLaw : Obligations.TimeoutLaw := by
  intro s sound hs hreq due
  have armed := execWriteDone_arms (sound.writeWait_owns_port hs) hs hreq due
  obtain ⟨v, rest⟩ := arbiter_next (arm { s with portBusy := false })
  have kept := arbiter_unissued (by simp) rest
  have state : v.txState = .ackWait := by rw [kept]; rfl
  have remain : v.pendRemain = s.txTimeout := by rw [kept]; rfl
  have waiting := (arbiter_sound (execWriteDone_coherent sound.coherent armed) rest).waiting state
  obtain ⟨k, hk⟩ : ∃ k, s.txTimeout.toNat = k + 1 :=
    Nat.exists_eq_succ_of_ne_zero fun h => sound.timer_armed.2 (by simp [hs]) (BitVec.eq_of_toNat_eq h)
  refine ⟨v, (transact_next (decode_writeDone 0) armed).trans rest, fun k hk => ?_, waiting.pending, ?_⟩
  · exact waiting.ticks_count (by rw [remain, Nat.sub_add_cancel hk.le]) (Nat.sub_ne_zero_of_lt hk)
  · rw [hk]
    exact waiting.ticks_expire (remain ▸ hk)

/-! ## ACK_RESOLVE -/

/-- The awaited ACK after the write (R232). -/
theorem ackResolve_awaited {a : Byte} {s : State} (named : s.pendValid = true ∧ s.pendSeq = a)
    (hs : s.txState = .ackWait) (more : Bytes) :
    ackResolve (a :: more) s = .ok (advance { s with pendValid := false, pendRemain := 0 }) := by
  simp [ackResolve, named, hs]

/-- The awaited ACK before the write is done (R233). -/
theorem ackResolve_early {a : Byte} {s : State} (named : s.pendValid = true ∧ s.pendSeq = a)
    (hs : s.txState ≠ .ackWait) (more : Bytes) :
    ackResolve (a :: more) s = .ok { s with pendValid := false, pendAcked := true } := by
  simp [ackResolve, named, hs]

/-- An ACK of another sequence (R232). -/
theorem ackResolve_unknown {a : Byte} {s : State} (unnamed : ¬(s.pendValid = true ∧ s.pendSeq = a)) (more : Bytes) :
    ackResolve (a :: more) s = .ok (emit [0xC3, 0x01, a] s) := by
  simp [ackResolve, unnamed, LogCode.code]

/-- A heard Control/ACK frame goes to ACK_RESOLVE, and as a Control frame it owes no ACK (R241, R261, R300). -/
theorem exec_ctrlAck {t : FrameTail} {s : State} (h : Heard t s) :
    exec (.ctrlAck t) s = .next (finishMessage ⟨.control, ackSubtype, t.seq, t.flags, t.payload⟩
      { s with rxExp := nextExpected s t.seq }) := by
  have row := notifyFrame_whole (cls := .control) (subtype := ackSubtype) h.listens h.no_reassembly h.intact
    h.unfragmented h.in_sequence
  rw [oweFrameAck, if_neg (by simp)] at row
  exact row

/-- What a heard Control/ACK frame resolves is all that it does (R232). -/
theorem exec_ctrlAck_resolves {t : FrameTail} {s u : State} (h : Heard t s)
    (hr : ackResolve t.payload { s with rxExp := nextExpected s t.seq } = .ok u) : exec (.ctrlAck t) s = .next u := by
  rw [exec_ctrlAck h, finishMessage, classify, if_pos ⟨rfl, rfl⟩, hr]
  exact congrArg Host.Outcome.next (if_neg (by simp))

/-- A heard Control/ACK frame without a payload is fatal (R232). -/
theorem exec_ctrlAck_malformed {t : FrameTail} {s : State} (h : Heard t s) (hp : t.payload = []) :
    exec (.ctrlAck t) s = .next (fatalEntry .malformedAck { s with rxExp := nextExpected s t.seq }) := by
  rw [exec_ctrlAck h, finishMessage, classify, if_pos ⟨rfl, rfl⟩, hp]
  rfl

/-- Settles O38: a heard ACK frame does what ACK_RESOLVE says (`exec_ctrlAck_resolves`) in each of its cases
(`ackResolve_awaited`, `ackResolve_early`, `ackResolve_unknown`). -/
theorem ackResolves : Obligations.AckResolves := by
  intro t s hs hf ha hi hg hq v
  have heard : Heard t s := ⟨listening_of hs hf, ha, hi, hg, hq⟩
  refine ⟨exec_ctrlAck_malformed heard, fun a more hp => ⟨fun named wait => ?_, fun named write => ?_,
    fun unnamed => ?_⟩⟩
  · rw [exec_ctrlAck_resolves heard (hp ▸ ackResolve_awaited (s := v) named wait more), advance_eq]
  · have early : v.txState ≠ .ackWait := fun e => nomatch write.symm.trans e
    exact exec_ctrlAck_resolves heard (hp ▸ ackResolve_early (s := v) named early more)
  · exact exec_ctrlAck_resolves heard (hp ▸ ackResolve_unknown (s := v) unnamed more)

/-! ## The ACK of a SEND's one frame -/

/-- A SEND that asks for an ACK is about to issue its only frame; the block is ready for an ACK's frame (R181, R245). -/
structure AsksOnce (s : State) : Prop where
  listens : listening s = true
  no_reassembly : s.raActive = false
  port_free : s.portBusy = false
  ackq_empty : s.ackq = []
  issue : s.txState = .issue
  asks : s.txAckReq = true
  only_frame : (currentFragment s).frag = false

/-- The state after that frame's write is done (R231, R245). -/
def awaitingAck (s : State) : State := arm { issued s with portBusy := false }

/-- A SEND that asks for an ACK and fits one frame, accepted by a sound idle block (R294). -/
theorem exec_send_asksOnce {s : State} {b0 opts : Byte} (timeout : Half) {p : Bytes} (sound : Sound s)
    (ready : s.sess = .ready) (alive : s.fatal = false) (idle : s.txState = .idle) (closed : s.raActive = false)
    (free : s.portBusy = false) (hlen : p.length ≤ min s.cap.toNat 255) (hopts : opts.toNat < 4)
    (hack : opts.getLsbD 0 = true) (hcls : b0.toNat % 4 < 2) (notAck : b0 ≠ 0) :
    ∃ v, exec (.send (.message b0 opts timeout p)) s = .next v ∧ AsksOnce v ∧ v.txSeq = s.txSeq ∧
      v.rxExp = s.rxExp := by
  have listens := listening_of ready alive
  have control (h : b0.toNat % 4 = 0) :
      ¬(b0.toNat / 4 = 0 ∧ opts.getLsbD 0 = true) ∧ p.length ≤ min s.cap.toNat 255 :=
    ⟨fun ⟨subtype, _⟩ => notAck (BitVec.eq_of_toNat_eq (show b0.toNat = 0 by omega)), hlen⟩
  have fits : p.length ≤ 65535 := by omega
  obtain ⟨buf, accepted, _, _⟩ :=
    sendAccepted b0 opts timeout p s fits sound.buffers_wf.1 hopts hcls ready alive idle control
  refine ⟨_, accepted, ?_, rfl, rfl⟩
  exact
    { listens := listens
      no_reassembly := closed
      port_free := free
      ackq_empty := (sound.settled listens free).1
      issue := rfl
      asks := hack
      only_frame := nextFragment_whole ((Nat.mod_le _ _).trans hlen) _ _ }

/-- The frame goes out and its write is done. -/
theorem AsksOnce.written {s : State} (h : AsksOnce s) :
    arbiter s = .next (issued s) ∧ transact [0x81, 0x00] (issued s) = .next (awaitingAck s) := by
  have armed := execWriteDone_arms (s := issued s) ⟨rfl, rfl⟩ rfl h.asks (by simp [issued, h.asks])
  refine ⟨arbiter_issue h.port_free h.listens h.ackq_empty h.issue, ?_⟩
  rw [transact_next (decode_writeDone 0) armed]
  exact arbiter_idle h.ackq_empty nofun

/-- The frame's sequence is the pending one (R230). -/
theorem AsksOnce.pending {s : State} (h : AsksOnce s) :
    (awaitingAck s).pendValid = true ∧ (awaitingAck s).pendSeq = s.txSeq := by
  simp [awaitingAck, issued, h.asks]

/-- An intact, unfragmented frame that passes SEQ_CHECK is heard while the ACK is awaited (R300). -/
theorem AsksOnce.hears {s : State} (h : AsksOnce s) {t : FrameTail} (hi : intact t) (hg : fragFlag t.flags = false)
    (hq : s.rxExp ≤ t.seq) : Heard t (awaitingAck s) :=
  ⟨h.listens, h.no_reassembly, hi, hg, hq⟩

/-- A heard Control/ACK frame arrives in an RX_NOTIFY, and the arbiter follows (R16, R126). -/
theorem transact_ctrlAck {t : FrameTail} {s u : State} (h : Heard t s)
    (hr : ackResolve t.payload { s with rxExp := nextExpected s t.seq } = .ok u) :
    transact (0x80 :: encode (.ctrlAck t)) s = arbiter u := by
  obtain ⟨decoded, same⟩ := frameRowIsNotification (.ctrlAck t) _ s h.intact.1 rfl
  exact transact_next decoded (same.trans (exec_ctrlAck_resolves h hr))

/-- The ACK of the frame completes the SEND (R232, R234, R248). -/
theorem AsksOnce.completed {s : State} (h : AsksOnce s) {t : FrameTail} {more : Bytes}
    (heard : Heard t (awaitingAck s)) (hp : t.payload = s.txSeq :: more) :
    ∃ v, transact (0x80 :: encode (.ctrlAck t)) (awaitingAck s) = .next v ∧ v.txState = .idle ∧ v.pendValid = false ∧
      v.out = (awaitingAck s).out ++ [[0xC1, 0x02, 0x00, 0x00]] := by
  have last : (awaitingAck s).txLast = true := congrArg not h.only_frame
  have resolved := ackResolve_awaited (s := { awaitingAck s with rxExp := nextExpected (awaitingAck s) t.seq })
    h.pending rfl more
  rw [← hp, advance_eq, if_pos last, if_pos last] at resolved
  exact ⟨_, (transact_ctrlAck heard resolved).trans (arbiter_idle h.ackq_empty nofun), rfl, rfl, rfl⟩

/-- An ACK of another sequence is logged and leaves the SEND pending (R232, R248). -/
theorem AsksOnce.unacknowledged {s : State} (h : AsksOnce s) {t : FrameTail} {a : Byte} {more : Bytes}
    (heard : Heard t (awaitingAck s)) (hp : t.payload = a :: more) (other : a ≠ s.txSeq) :
    ∃ v, transact (0x80 :: encode (.ctrlAck t)) (awaitingAck s) = .next v ∧ v.txState = .ackWait ∧
      v.pendValid = true ∧ v.pendSeq = s.txSeq ∧ v.out = (awaitingAck s).out ++ [[0xC3, 0x01, a]] := by
  obtain ⟨pending, named⟩ := h.pending
  have resolved := ackResolve_unknown (s := { awaitingAck s with rxExp := nextExpected (awaitingAck s) t.seq })
    (fun ⟨_, e⟩ => other (e.symm.trans named)) more
  rw [← hp] at resolved
  exact ⟨_, (transact_ctrlAck heard resolved).trans (arbiter_idle h.ackq_empty nofun), rfl, pending, named, rfl⟩

/-- Settles O32: the SEND is accepted and fits one frame (`exec_send_asksOnce`), its write arms the timer
(`AsksOnce.written`), and the ACK's frame resolves it or is logged (`AsksOnce.completed`, `AsksOnce.unacknowledged`). -/
theorem ackCorrelation : Obligations.AckCorrelation := by
  intro s b0 opts timeout p t a more sound ready alive idle closed free hlen hopts hack hcls notAck hi hg hp hq
  obtain ⟨v, accepted, once, seq, expected⟩ :=
    exec_send_asksOnce timeout sound ready alive idle closed free hlen hopts hack hcls notAck
  obtain ⟨issues, done⟩ := once.written
  obtain ⟨pending, named⟩ := once.pending
  have heard := once.hears hi hg (expected ▸ hq)
  have fits : p.length ≤ Config.maxPayload := (hlen.trans (Nat.min_le_right ..)).trans (by decide)
  have sent := (transact_next (decodeEncode (.send (.message b0 opts timeout p)) (decide_eq_true fits)) accepted).trans
    issues
  refine ⟨awaitingAck v, (transactAll_cons sent _).trans (transactAll_cons done []), rfl, pending, seq ▸ named, ?_⟩
  rw [← seq]
  by_cases own : a = v.txSeq
  · obtain ⟨w, run, ended⟩ := once.completed heard (own ▸ hp)
    exact ⟨w, run, fun _ => ended, fun other => absurd own other⟩
  · obtain ⟨w, run, kept⟩ := once.unacknowledged heard hp own
    exact ⟨w, run, fun same => absurd same own, fun _ => kept⟩

end Sys2Proof.Machine
end

section
/-! PROOFS. A SEND in progress ends exactly once (R235, R294): every rule keeps the sum of the SENDs in progress and the
CMD_DONEs that ended one, an accepted SEND apart. -/

namespace Sys2Proof.Machine

/-! ## Events that end a SEND -/

/-- The event is a CMD_DONE that ends a SEND in progress (R132, R294). -/
def endsSend (e : Bytes) : Bool := isSendDone e && isSendEnd e

/-- Only a CMD_DONE ends a SEND. -/
theorem endsSend_of_tag {tag : Byte} (h : tag ≠ 0xC1) (rest : Bytes) : endsSend (tag :: rest) = false := by
  have other : isSendDone (tag :: rest) = false := by
    unfold isSendDone
    split
    · rename_i e
      cases e
      rw [beq_false_of_ne h, Bool.false_and]
    · rfl
  rw [endsSend, other, Bool.false_and]

/-- The answer to an illegal command ends no SEND (R291). -/
theorem endsSend_illegal (op d : Byte) : endsSend [0xC1, op, 0x21, d] = false := Bool.and_false _

/-! ## The account of SENDs -/

/-- The number of SENDs in progress (R39). -/
def openSends (s : State) : Nat := if s.txState = .idle then 0 else 1

/-- From `s` to `t` each SEND that is in progress no more was ended by one CMD_DONE, and no other was emitted. -/
def Accounts (s t : State) : Prop :=
  ∃ evs, t.out = s.out ++ evs ∧ openSends t + evs.countP endsSend = openSends s

theorem Accounts.trans {s t u : State} (h : Accounts s t) (k : Accounts t u) : Accounts s u := by
  obtain ⟨evs, ho, hn⟩ := h
  obtain ⟨fvs, ko, kn⟩ := k
  refine ⟨evs ++ fvs, by rw [ko, ho, List.append_assoc], ?_⟩
  rw [List.countP_append]
  omega

/-- TX_STATE stays what it is, or is not IDLE before and after, and no event is emitted. -/
theorem Accounts.of_silent {s t : State} (hs : t.txState = .idle ↔ s.txState = .idle) (ho : t.out = s.out) :
    Accounts s t :=
  ⟨[], by rw [ho, List.append_nil], if_congr hs rfl rfl⟩

theorem Accounts.refl (s : State) : Accounts s s := .of_silent Iff.rfl rfl

/-- One event that ends no SEND. -/
theorem Accounts.emit {e : Bytes} (h : endsSend e = false) (s : State) : Accounts s (Machine.emit e s) :=
  ⟨[e], rfl, by rw [List.countP_singleton, h]; rfl⟩

/-- The SEND in progress goes idle with the one CMD_DONE that ends it. -/
theorem Accounts.ended {s t : State} {e : Bytes} (hs : s.txState ≠ .idle) (ht : t.txState = .idle)
    (he : endsSend e = true) (ho : t.out = s.out ++ [e]) : Accounts s t :=
  ⟨[e], ho, by simp [openSends, hs, ht, he]⟩

/-! ## The shared operations -/

theorem fatalEntry_accounts (code : FatalCode) (s : State) : Accounts s (fatalEntry code s) := by
  refine ⟨_, fatalEntry_out code s, ?_⟩
  by_cases hs : s.txState = .idle <;> simp [openSends, fatalEvents, hs, endsSend, isSendDone, isSendEnd]

theorem advance_accounts {s : State} (hs : s.txState ≠ .idle) : Accounts s (advance s) := by
  rw [advance_eq]
  by_cases last : s.txLast = true
  · rw [if_pos last, if_pos last]
    exact .ended (e := [0xC1, 0x02, 0x00, 0]) hs rfl rfl rfl
  · rw [if_neg last, if_neg last]
    exact .of_silent (by simp [hs]) (List.append_nil _)

theorem ackResolve_accounts {p : Bytes} {s t : State} (h : ackResolve p s = .ok t) : Accounts s t := by
  rcases ackResolve_cases h with
    ⟨_, h⟩ | ⟨_, _, _, _, _, hs, h⟩ | ⟨_, _, _, _, _, _, h⟩ | ⟨a, _, _, _, h⟩ <;> cases h
  · exact advance_accounts (s := { s with pendValid := false, pendRemain := 0 }) (by simp [hs])
  · exact .of_silent Iff.rfl rfl
  · exact .emit (endsSend_of_tag (by decide) _) s

theorem timerStep_accounts (s : State) : Accounts s (timerStep s) := by
  rcases timerStep_cases s with ⟨_, e⟩ | ⟨_, _, _, e⟩ | ⟨_, hs, _, e⟩ <;> rw [e]
  · exact .refl s
  · exact .of_silent Iff.rfl rfl
  · exact .ended (e := [0xC1, 0x02, 0x05, 0]) (by simp [hs]) rfl rfl rfl

theorem oweFrameAck_accounts (f : Frame) (s : State) : Accounts s (oweFrameAck f s) := by
  rw [oweFrameAck_eq]
  exact .of_silent Iff.rfl rfl

theorem oweMessageAck_accounts (m : Message) (s : State) : Accounts s (oweMessageAck m s) := by
  rw [oweMessageAck_eq]
  exact .of_silent Iff.rfl rfl

theorem OnlyReassembly.accounts {s t : State} (h : OnlyReassembly s t) : Accounts s t := by
  rw [h]
  exact .of_silent Iff.rfl rfl

/-! ## The inbound pipeline -/

theorem classify_accounts {m : Message} {s t : State} (h : classify m s = .ok t) : Accounts s t := by
  unfold classify at h
  split at h
  · exact ackResolve_accounts h
  · cases h
    exact .emit (endsSend_of_tag (by decide) _) s

theorem finishMessage_accounts (m : Message) (s : State) : Accounts s (finishMessage m s) := by
  unfold finishMessage
  split
  · exact fatalEntry_accounts _ s
  · rename_i t h
    exact (classify_accounts h).trans (oweMessageAck_accounts m t)

theorem acceptFrame_accounts {f : Frame} {s t : State} (h : acceptFrame f s = .next t) : Accounts s t := by
  rcases acceptFrame_cases f s with
    ⟨_, e⟩ | ⟨_, u, hu, ⟨_, _, e⟩ | ⟨_, ⟨_, v, hv, e⟩ | ⟨v, hv, e⟩ | ⟨_, v, hv, e⟩⟩⟩ <;> cases e.symm.trans h
  · exact fatalEntry_accounts _ s
  all_goals have heard : Accounts s u := hu ▸ .of_silent Iff.rfl rfl
  · exact heard.trans (fatalEntry_accounts _ u)
  all_goals have left : Accounts s v := heard.trans (reassemble_only (by rw [hv]; rfl)).accounts
  · exact left.trans (fatalEntry_accounts _ v)
  · exact left.trans (oweFrameAck_accounts f v)
  · exact (left.trans (oweFrameAck_accounts f v)).trans (finishMessage_accounts _ _)

theorem notifyBytes_accounts {b : Bytes} {s t : State} (h : notifyBytes b s = .next t) : Accounts s t := by
  unfold notifyBytes afterDecode at h
  split at h
  · split at h
    · cases h
      exact fatalEntry_accounts _ s
    · exact acceptFrame_accounts h
  · cases h
    exact .emit (endsSend_of_tag (by decide) _) s

/-! ## The commands and the other events -/

theorem execReady_accounts {a : ReadyArgs} {s t : State} (h : execReady a s = .next t) : Accounts s t := by
  cases a with
  | badLength rest =>
    cases h
    exact .emit (endsSend_illegal 0x01 0) s
  | capacity cap =>
    unfold execReady at h
    dsimp only at h
    split at h <;> cases h
    · exact .emit (endsSend_illegal 0x01 0) s
    · exact Accounts.trans (t := { s with cap := cap, sess := .ready, linkOpen := true }) (.of_silent Iff.rfl rfl)
        (.emit rfl _)

/-- A SEND while another is in progress is refused, with ILLEGAL_COMMAND or BUSY, which end none (R294). -/
theorem execSend_accounts {a : SendArgs} {s t : State} (hl : listening s = true) (busy : s.txState ≠ .idle)
    (h : execSend a s = .next t) : Accounts s t := by
  obtain ⟨ready, alive⟩ := listening_iff.mp hl
  cases a with
  | badLength rest =>
    cases h
    exact .emit (endsSend_illegal 0x02 0) s
  | message b0 opts timeout payload =>
    unfold execSend at h
    dsimp only at h
    rcases ite_next h with ⟨_, rfl⟩ | ⟨_, h⟩
    · exact .emit (endsSend_illegal 0x02 0) s
    rw [if_neg (not_not.mpr ready), if_neg (by simp [alive]), if_pos busy] at h
    cases h
    exact .emit rfl s

theorem execQuery_accounts {a : NoArgs} {s t : State} (h : execQuery a s = .next t) : Accounts s t := by
  cases a <;> cases h
  · exact .emit (endsSend_of_tag (by decide) _) s
  · exact .emit (endsSend_illegal 0x04 0) s

/-- CLOSE and LINK_DOWN end the SEND in progress, if there is one, with their own status (R297, R310). -/
theorem teardown_accounts {st : Status} (hst : endsSend [0xC1, 0x02, st.code, 0] = true) (s : State) (linkOpen : Bool) :
    Accounts s { teardown (failSend st s) with sess := .closed, linkOpen := linkOpen } := by
  rw [failSend_eq]
  by_cases hs : s.txState = .idle
  · rw [if_pos hs]
    exact .of_silent (iff_of_true rfl hs) (List.append_nil _)
  · rw [if_neg hs]
    exact .ended hs rfl hst rfl

theorem releaseLink_accounts (s : State) : Accounts s (releaseLink s) := by
  unfold releaseLink
  split
  · exact (Accounts.emit (e := [0xC5]) rfl s).trans (.of_silent Iff.rfl rfl)
  · exact .refl s

theorem execClose_accounts {a : NoArgs} {s t : State} (h : execClose a s = .next t) : Accounts s t := by
  cases a with
  | badLength rest =>
    cases h
    exact .emit (endsSend_illegal 0x03 0) s
  | exact =>
    unfold execClose at h
    dsimp only at h
    split at h <;> cases h
    · exact .emit rfl s
    · exact ((teardown_accounts (st := .closed) rfl s _).trans (releaseLink_accounts _)).trans (.emit rfl _)

theorem execLinkDown_accounts {s t : State} (h : execLinkDown s = .next t) : Accounts s t := by
  unfold execLinkDown at h
  split at h <;> cases h
  · exact .refl s
  · exact teardown_accounts (st := .transportError) rfl s false

/-- The completion of a SEND frame's write ends the SEND or moves it on (R305). -/
theorem sendWriteDone_accounts (st : Byte) (s : State) : Accounts s (sendWriteDone st s) := by
  unfold sendWriteDone
  split
  · exact .refl s
  rename_i waits
  have busy : s.txState ≠ .idle := by simp [not_not.mp waits]
  split
  · exact .ended (e := [0xC1, 0x02, 0x06, 0]) busy rfl rfl rfl
  split
  · exact .of_silent (by simp [busy]) rfl
  · exact advance_accounts (s := { s with pendAcked := false }) busy

theorem execWriteDone_accounts {st : Byte} {s t : State} (h : execWriteDone st s = .next t) : Accounts s t := by
  have freed : Accounts s { s with portBusy := false } := .of_silent Iff.rfl rfl
  unfold execWriteDone at h
  split at h
  · split at h <;> cases h
    · unfold ackWriteDone
      split
      · exact freed.trans (.emit (endsSend_of_tag (by decide) _) _)
      · exact freed
    · exact freed.trans (sendWriteDone_accounts st _)
  · cases h
    exact .emit (endsSend_of_tag (by decide) _) s

/-! ## Every transaction and every step -/

/-- While a SEND is in progress every input transaction's own rule keeps the account. -/
theorem exec_accounts {b : Bytes} {i : Instr} {s t : State} (hl : listening s = true) (busy : s.txState ≠ .idle)
    (hd : decode .input b = .ok i) (h : exec i s = .next t) : Accounts s t := by
  have illegal {tag : Byte} (e : exec i s = .next (illegalCommand tag s)) : Accounts s t := by
    cases e.symm.trans h
    exact .emit (endsSend_illegal tag 0) s
  obtain ⟨tag, rest, rfl, hi⟩ := decodeInput_cases hd
  rcases hi with ⟨_, rfl⟩ | ⟨_, rfl⟩ | ⟨_, rfl⟩ | ⟨_, rfl⟩ | ⟨_, rfl⟩ | ⟨_, rfl⟩ | ⟨_, rfl⟩ | ⟨_, rfl⟩ | ⟨_, rfl⟩ |
    ⟨_, rfl⟩ | ⟨_, rfl⟩ | ⟨_, rfl⟩ | ⟨_, st, _, rfl⟩ | ⟨_, _, rfl⟩ | ⟨_, _, rfl⟩ | ⟨_, rfl⟩ | ⟨_, rfl⟩ | ⟨_, rfl⟩ |
    ⟨_, rfl⟩ | ⟨_, rfl⟩
  · exact illegal rfl
  · exact execReady_accounts h
  · exact execSend_accounts hl busy h
  · exact execClose_accounts h
  · exact execQuery_accounts h
  iterate 6 exact illegal rfl
  · exact notifyBytes_accounts h
  · exact execWriteDone_accounts h
  · cases h
    exact timerStep_accounts s
  · exact execLinkDown_accounts h
  all_goals cases h

/-- The arbiter begins and ends no SEND (R245). -/
theorem arbiter_accounts {s t : State} (h : arbiter s = .next t) : Accounts s t := by
  rcases arbiter_cases s with ⟨_, e⟩ | ⟨_, _, a, rest, _, e⟩ | ⟨_, _, _, hs, e⟩ <;> cases e.symm.trans h
  · exact .refl s
  · exact Accounts.trans (t := { issueAck a rest s with out := s.out }) (.of_silent Iff.rfl rfl)
      (.emit (endsSend_of_tag (by decide) _) _)
  · exact Accounts.trans (t := { issued s with out := s.out }) (.of_silent (by simp [issued, hs]) rfl)
      (.emit (endsSend_of_tag (by decide) _) _)

/-- Settles O54: the transaction's own rule keeps the account of SENDs (`exec_accounts`), and so does the arbiter
(`arbiter_accounts`): of the one SEND that is open, either it still is, or one event ended it. -/
theorem sendEndsOnce : Obligations.SendEndsOnce := by
  intro s t sound busy h
  obtain ⟨evs, out, account⟩ : Accounts s t := by
    rcases step_cases h with ⟨_, rfl⟩ | ⟨b, u, i, v, hf, hd, he, ha⟩
    · exact .refl t
    obtain ⟨waiting, rfl⟩ := fetch_cases hf
    have listens := sound.coherent.listening_of_busy busy
    exact (exec_accounts (s := { s with input := waiting }) listens busy hd he).trans (arbiter_accounts ha)
  refine ⟨evs, out, ?_⟩
  rw [openSends, openSends, if_neg busy] at account
  by_cases idle : t.txState = .idle
  · rw [if_pos idle] at account ⊢
    exact (Nat.zero_add _).symm.trans account
  · rw [if_neg idle] at account ⊢
    exact Nat.add_left_cancel account

end Sys2Proof.Machine
end

section
/-! PROOFS. The WIFI_LIST layout read back (R265, R266): a whole record at the front of a payload is read and the parse
goes on behind it, so a list of records parses record by record. -/

namespace Sys2Proof.Machine.Payload

/-- A WIFI_LIST record as a sender writes it (R265): entry_len, which counts the rssi byte and the ssid, then these two. -/
def wifiRecord (e : Byte × Bytes) : Bytes := BitVec.ofNat 8 (e.2.length + 1) :: e.1 :: e.2

/-- What the consumer is to read from `wifiRecord e` (R265). -/
def wifiEntry (e : Byte × Bytes) : WifiEntry := ⟨BitVec.ofNat 8 (e.2.length + 1), rssiOf e.1, e.2⟩

/-- The rssi byte in arithmetic: `b` below 0x80 and `b - 256` otherwise (R266). -/
theorem rssiOf_eq (b : Byte) : rssiOf b = if b.toNat < 128 then (b.toNat : Int) else (b.toNat : Int) - 256 := by
  have half : 2 * b.toNat < 2 ^ 8 ↔ b.toNat < 128 := by omega
  rw [rssiOf, BitVec.toInt_eq_toNat_cond]
  simp only [half]
  rfl

/-- One turn of R265's loop on a record whose entry_len counts the bytes that follow it. -/
theorem wifiListFrom_cons (fuel : Nat) {n rssi : Byte} {ssid : Bytes} (counts : n.toNat = ssid.length + 1) (rest : Bytes) :
    wifiListFrom (fuel + 1) (n :: rssi :: ssid ++ rest) =
      (wifiListFrom fuel rest).map (WifiEntry.mk n (rssiOf rssi) ssid :: ·) := by
  have whole : ¬ (rssi :: (ssid ++ rest)).length < n.toNat := by
    simp only [List.length_cons, List.length_append]
    omega
  have front : (rssi :: (ssid ++ rest)).take n.toNat = rssi :: ssid := List.take_left' (l₁ := rssi :: ssid) counts.symm
  have behind : (rssi :: (ssid ++ rest)).drop n.toNat = rest := List.drop_left' (l₁ := rssi :: ssid) counts.symm
  simp only [List.cons_append, wifiListFrom, front, behind, if_neg whole]

/-- An ssid of up to 254 bytes leaves entry_len room in its byte, so its record is read back. -/
theorem wifiListFrom_record (fuel : Nat) {e : Byte × Bytes} (fits : e.2.length ≤ 254) (rest : Bytes) :
    wifiListFrom (fuel + 1) (wifiRecord e ++ rest) = (wifiListFrom fuel rest).map (wifiEntry e :: ·) := by
  have counts : (BitVec.ofNat 8 (e.2.length + 1)).toNat = e.2.length + 1 := by
    rw [BitVec.toNat_ofNat, Nat.mod_eq_of_lt (by omega)]
  exact wifiListFrom_cons fuel counts rest

/-- Every list of records parses back, given a turn of the loop for each record. -/
theorem wifiListFrom_records {entries : List (Byte × Bytes)} (fits : ∀ e ∈ entries, e.2.length ≤ 254) {fuel : Nat}
    (enough : entries.length ≤ fuel) :
    wifiListFrom fuel (entries.flatMap wifiRecord) = some (entries.map wifiEntry) := by
  induction entries generalizing fuel with
  | nil => simp [wifiListFrom]
  | cons e es ih =>
    obtain ⟨fits_e, fits_es⟩ := List.forall_mem_cons.mp fits
    cases fuel with
    | zero => cases enough
    | succ fuel =>
      rw [List.flatMap_cons, wifiListFrom_record fuel fits_e, ih fits_es (Nat.le_of_succ_le_succ enough)]
      rfl

/-- A record takes at least one byte, so a payload's length is turns enough for its records. -/
theorem length_le_flatMap_wifiRecord (entries : List (Byte × Bytes)) :
    entries.length ≤ (entries.flatMap wifiRecord).length := by
  induction entries with
  | nil => exact Nat.le_refl 0
  | cons e es ih =>
    simp only [List.flatMap_cons, List.length_append, List.length_cons, wifiRecord]
    omega

/-- The parse of R265 gives the records of a WIFI_LIST payload, in order. -/
theorem wifiList_records {entries : List (Byte × Bytes)} (fits : ∀ e ∈ entries, e.2.length ≤ 254) :
    wifiList (entries.flatMap wifiRecord) = some (entries.map wifiEntry) :=
  wifiListFrom_records fits (length_le_flatMap_wifiRecord entries)

end Sys2Proof.Machine.Payload

namespace Sys2Proof.Machine

/-- Settles O59: the records parse back (`Payload.wifiList_records`) with the rssi that R266 gives (`Payload.rssiOf_eq`);
Scenario B is the instance of two records. -/
theorem wifiListParses : Obligations.WifiListParses := by
  constructor
  · intro entries fits
    simp only [← Payload.rssiOf_eq]
    exact Payload.wifiList_records fits
  · exact Payload.wifiList_records (entries := [(0xC8, [0x41, 0x42, 0x43, 0x44, 0x45]), (0xC0, [0x57, 0x69, 0x46])])
      (by decide)

end Sys2Proof.Machine
end

section
/-! PROOFS. The session (spec/45_session.md): READY, the refusals of SEND, CLOSE and LINK_DOWN with their TEARDOWN, every
case of WRITE_DONE, and what a block that is not listening makes of a notification. -/

namespace Sys2Proof.Machine

/-! ## READY -/

/-- READY opens a session that is CONNECTING, at a capacity of at least 3 (R292). -/
theorem execReady_opens {cap : Half} {s : State} (connecting : s.sess = .connecting) (enough : Config.minCap ≤ cap) :
    exec (.ready (.capacity cap)) s =
      .next (emit [0xC1, 0x01, 0x00, 0x00] { s with cap := cap, sess := .ready, linkOpen := true }) :=
  if_neg (not_or.mpr ⟨not_not.mpr connecting, BitVec.not_lt.mpr enough⟩)

/-- A second READY, a READY after CLOSED and one with too small a capacity are illegal (R292). -/
theorem execReady_illegal {cap : Half} {s : State} (h : s.sess ≠ .connecting ∨ cap < Config.minCap) :
    exec (.ready (.capacity cap)) s = .next (illegalCommand 0x01 s) :=
  if_pos h

/-- Settles O19: READY opens the session (`execReady_opens`) or is illegal (`execReady_illegal`), as R292 compares the
capacity with 3. -/
theorem readyRule : Obligations.ReadyRule := fun _ _ =>
  ⟨fun connecting enough => execReady_opens connecting (BitVec.le_def.mpr enough),
    fun h => execReady_illegal (h.imp_right BitVec.lt_def.mpr), fun _ => rfl⟩

/-! ## The refusals of SEND -/

/-- A class field that names no class is reserved (R103, R162). -/
theorem frameClass_eq_none_iff {b0 : Byte} : frameClass (classField b0) = none ↔ ¬b0.toNat % 4 < 2 := by
  refine ⟨fun unnamed named => ?_, fun reserved => ?_⟩
  · rw [frameClass_of_lt named] at unnamed
    cases unnamed
  · have field := classField_toNat b0
    have not_class (v : BitVec 2) (hv : v.toNat < 2) : classField b0 ≠ v := fun e => by
      rw [e] at field
      exact reserved (field ▸ hv)
    rw [frameClass, if_neg (not_class 0 (by decide)), if_neg (not_class 1 (by decide))]

/-- The reserved bits of `opts` are those from the value 4 up (R122). -/
theorem optReserved_eq_zero_iff {opts : Byte} : optReserved opts = 0 ↔ opts.toNat < 4 := by
  refine ⟨fun zero => ?_, optReserved_of_lt⟩
  have quotient : (optReserved opts).toNat = opts.toNat / 4 := subtypeField_toNat opts
  rw [zero, show (0 : BitVec 6).toNat = 0 from rfl] at quotient
  omega

/-- SEND's check 1 in arithmetic, for a payload that L can count (R294). -/
theorem sendMalformed_iff {b0 opts : Byte} {p : Bytes} (hlen : p.length ≤ 65535) :
    sendMalformed b0 opts p = true ↔ ¬(opts.toNat < 4 ∧ b0.toNat % 4 < 2) := by
  have counted : ¬Config.maxPayload < p.length := Nat.not_lt.mpr hlen
  rw [← optReserved_eq_zero_iff, Decidable.not_and_iff_or_not, ← frameClass_eq_none_iff]
  simp [sendMalformed, counted]

section
variable {b0 opts : Byte} {p : Bytes} {s : State} (timeout : Half)

/-- Check 1 (R294). -/
theorem execSend_malformed (h : sendMalformed b0 opts p = true) :
    execSend (.message b0 opts timeout p) s = .next (illegalCommand 0x02 s) :=
  if_pos h

/-- Check 2 (R294). -/
theorem execSend_notReady (wellFormed : sendMalformed b0 opts p = false) (unready : s.sess ≠ .ready) :
    execSend (.message b0 opts timeout p) s = .next (sendDone .notReady s) := by
  simp only [execSend, wellFormed, unready, Bool.false_eq_true, if_false, ne_eq, not_false_eq_true, if_true]

/-- Check 3 (R294). -/
theorem execSend_fatal (wellFormed : sendMalformed b0 opts p = false) (ready : s.sess = .ready)
    (dead : s.fatal = true) :
    execSend (.message b0 opts timeout p) s = .next (emitCmdDone 0x02 Status.sessionFatal.code s.fatalCode s) := by
  simp [execSend, wellFormed, ready, dead]

/-- Check 4 (R294). -/
theorem execSend_busy (wellFormed : sendMalformed b0 opts p = false) (ready : s.sess = .ready)
    (alive : s.fatal = false) (busy : s.txState ≠ .idle) :
    execSend (.message b0 opts timeout p) s = .next (sendDone .busy s) := by
  simp [execSend, wellFormed, ready, alive, busy]

/-- Checks 5 and 6: an ACK that asks for an ACK, and a Control message that does not fit one frame (R187, R252, R294). -/
theorem execSend_control_illegal (wellFormed : sendMalformed b0 opts p = false) (ready : s.sess = .ready)
    (alive : s.fatal = false) (idle : s.txState = .idle) (control : frameClass (classField b0) = some .control)
    (h : (subtypeField b0 = ackSubtype ∧ optAckReq opts = true) ∨ capEff s < p.length) :
    execSend (.message b0 opts timeout p) s = .next (illegalCommand 0x02 s) := by
  by_cases ackOfAck : subtypeField b0 = ackSubtype ∧ optAckReq opts = true
  · simp [execSend, wellFormed, ready, alive, idle, control, ackOfAck]
  · have long := h.resolve_left ackOfAck
    simp [execSend, wellFormed, ready, alive, idle, control, ackOfAck, long]

end

/-- Settles O20: the checks of R294 one by one, check 1 in arithmetic (`sendMalformed_iff`), the others each after those
before it have passed. -/
theorem sendRefusals : Obligations.SendRefusals := by
  intro b0 opts timeout p s hlen
  have wellFormed (h : opts.toNat < 4 ∧ b0.toNat % 4 < 2) : sendMalformed b0 opts p = false :=
    Bool.eq_false_iff.mpr fun malformed => (sendMalformed_iff hlen).mp malformed h
  refine ⟨fun h => execSend_malformed timeout ((sendMalformed_iff hlen).mpr h),
    fun h => execSend_notReady timeout (wellFormed h), fun h => execSend_fatal timeout (wellFormed h),
    fun h => execSend_busy timeout (wellFormed h), fun h ready alive idle isControl illegal => ?_, fun _ => rfl⟩
  have control : frameClass (classField b0) = some .control := by rw [frameClass_of_lt h.2, if_pos isControl]
  refine execSend_control_illegal timeout (wellFormed h) ready alive idle control
    (illegal.imp_left fun ⟨hs, ha⟩ => ⟨?_, ha⟩)
  rw [subtypeField_eq, hs]
  rfl

/-! ## CLOSE and LINK_DOWN -/

/-- CLOSE of a session that is not CLOSED: the SEND in progress ends with CLOSED, an open link is released, and the
TEARDOWN is done before the answer (R297). -/
theorem execClose_tearsDown {s : State} (h : s.sess ≠ .closed) :
    exec (.close .exact) s = .next (closedDown
      (s.out ++ (if s.txState = .idle then [] else [[0xC1, 0x02, 0x22, 0x00]]) ++ (if s.linkOpen then [[0xC5]] else []) ++
        [[0xC1, 0x03, 0x00, 0x00]]) s) := by
  rw [show exec (.close .exact) s = execClose .exact s from rfl, execClose, if_neg h, releaseLink_eq, failSend_eq]
  rfl

/-- LINK_DOWN of a session that is not CLOSED: the SEND in progress ends with TRANSPORT_ERROR, and no RELEASE goes out
(R310). -/
theorem execLinkDown_tearsDown {s : State} (h : s.sess ≠ .closed) :
    exec .linkDown s = .next (closedDown
      (s.out ++ if s.txState = .idle then [] else [[0xC1, 0x02, 0x06, 0x00]]) s) := by
  rw [show exec .linkDown s = execLinkDown s from rfl, execLinkDown, if_neg h, failSend_eq]
  rfl

/-- Settles O22: in CLOSED only the answer is emitted, elsewhere the block is closed down (`execClose_tearsDown`). -/
theorem closeRule : Obligations.CloseRule := fun _ =>
  ⟨fun closed => if_pos closed, execClose_tearsDown, fun _ => rfl⟩

/-- Settles O23: in CLOSED nothing happens, elsewhere the block is closed down (`execLinkDown_tearsDown`). -/
theorem linkDownRule : Obligations.LinkDownRule := fun _ =>
  ⟨fun closed => if_pos closed, execLinkDown_tearsDown⟩

/-! ## WRITE_DONE -/

/-- A WRITE_DONE with no write outstanding is logged (R305). -/
theorem execWriteDone_spurious {s : State} (free : s.portBusy = false) (st : Byte) :
    exec (.writeDone st) s = .next (emit [0xC3, 0x03, 0x00] s) := by
  simp [exec, execWriteDone, free, LogCode.code]

/-- The end of an automatic ACK's write frees the port; a failure is logged (R244, R305). -/
theorem execWriteDone_autoAck {s : State} (busy : s.portBusy = true) (owner : s.portOwner = .autoAck) (st : Byte) :
    exec (.writeDone st) s = .next { s with
      portBusy := false
      out := s.out ++ if st = 0 then [] else [[0xC3, 0x04, 0x00]] } := by
  simp only [exec, execWriteDone, busy, owner, if_true, ackWriteDone]
  by_cases written : st = 0
  · simp only [written, ne_eq, not_true_eq_false, if_false, if_true, List.append_nil]
  · simp only [written, ne_eq, not_false_eq_true, if_false, if_true]
    rfl

/-- The end of a SEND frame's write is that SEND's matter, at a free port (R305). -/
theorem execWriteDone_send {s t : State} {st : Byte} (busy : s.portBusy = true) (owner : s.portOwner = .send)
    (h : sendWriteDone st { s with portBusy := false } = t) : exec (.writeDone st) s = .next t := by
  simp only [exec, execWriteDone, busy, owner, if_true, ← h]

/-- The SEND whose frame was written has ended in the meantime (R305). -/
theorem sendWriteDone_ended {s : State} {st : Byte} (h : s.txState ≠ .writeWait) : sendWriteDone st s = s :=
  if_pos h

/-- A write that failed ends the SEND with TRANSPORT_ERROR (R305). -/
theorem sendWriteDone_failed {s : State} {st : Byte} (waits : s.txState = .writeWait) (failed : st ≠ 0) :
    sendWriteDone st s =
      sendDone .transportError { s with pendValid := false, pendAcked := false, txState := .idle } := by
  rw [sendWriteDone, if_neg (not_not.mpr waits), if_pos failed]

/-- A written frame whose ACK is not due, none being asked for or the ACK having come early, advances the SEND (R233,
R234, R305). -/
theorem sendWriteDone_advances {s : State} (waits : s.txState = .writeWait)
    (settled : ¬(s.txAckReq = true ∧ s.pendAcked = false)) :
    sendWriteDone 0 s = { s with
      pendAcked := false
      txState := if s.txLast then .idle else .issue
      out := s.out ++ if s.txLast then [[0xC1, 0x02, 0x00, 0x00]] else [] } := by
  have undue : ¬(s.txAckReq && !s.pendAcked) = true := by simpa using settled
  rw [sendWriteDone, if_neg (not_not.mpr waits), if_neg (not_not.mpr rfl), if_neg undue, advance_eq]

/-- Settles O29: a spurious WRITE_DONE (`execWriteDone_spurious`), an automatic ACK's (`execWriteDone_autoAck`), and
those of a SEND's frame (`execWriteDone_send`): the SEND ended before, its write failed, it waits for the ACK
(`execWriteDone_arms`) or it advances (`sendWriteDone_advances`). -/
theorem writeDoneRule : Obligations.WriteDoneRule := by
  intro st s
  refine ⟨fun free => execWriteDone_spurious free st, fun busy owner => execWriteDone_autoAck busy owner st,
    fun busy owner ended => execWriteDone_send busy owner (sendWriteDone_ended ended),
    fun busy owner waits failed => execWriteDone_send busy owner (sendWriteDone_failed waits failed), ?_, ?_⟩
  · rintro busy owner waits rfl ⟨asks, due⟩
    exact execWriteDone_arms ⟨busy, owner⟩ waits asks due
  · rintro busy owner waits rfl settled
    exact execWriteDone_send busy owner (sendWriteDone_advances waits settled)

/-! ## A block that is not listening -/

/-- Outside READY, and after a fatal error, the block does not listen (R36, R301). -/
theorem not_listening_of {s : State} (h : s.sess ≠ .ready ∨ s.fatal = true) : listening s = false := by
  refine Bool.eq_false_iff.mpr fun listens => ?_
  obtain ⟨ready, alive⟩ := listening_iff.mp listens
  simp [ready, alive] at h

/-- Settles O34: a frame row is the notification of its frame (`exec_frame`), and a block that does not listen logs a
notification whatever it carries (`notifyBytes_ignored`, `notifyFrame_ignored`). -/
theorem notListeningIgnored : Obligations.NotListeningIgnored := fun s h =>
  ⟨notifyBytes_ignored (not_listening_of h), fun _ p row =>
    (exec_frame row s).trans (notifyFrame_ignored (not_listening_of h) p)⟩

end Sys2Proof.Machine
end

section
/-! PROOFS. Fatal errors (spec/60_exceptions.md): the fatal entry and its codes, what of a notification survives the error
it raises, and that nothing clears the fatal record or adds to it. -/

namespace Sys2Proof.Machine

/-! ## The fatal entry -/

/-- The events of the fatal entry as R340 emits them, FATAL first. -/
theorem fatalEvents_eq (code : FatalCode) (s : State) :
    fatalEvents code s =
      [[0xC4, code.code]] ++ if s.txState = .idle then [] else [[0xC1, 0x02, 0x23, code.code]] := by
  unfold fatalEvents
  split <;> rfl

/-- Settles O45: what the fatal entry writes (`fatalEntry_eq`), its events in their order (`fatalEvents_eq`); the codes by
evaluation. -/
theorem fatalEntryRule : Obligations.FatalEntryRule := by
  refine ⟨fun c s => ?_, rfl⟩
  rw [fatalEntry_eq, fatalEvents_eq, ← List.append_assoc]

/-! ## What survives a notification's fatal error -/

/-- The codes raised after SEQ_CHECK has passed and moved RX_EXP on (R341). -/
abbrev lateCodes : List FatalCode := [.controlFragmented, .fragmentTooShort, .fragmentOverflow, .malformedAck]

/-- `t` is the fatal entry on `s` itself, or after a late code on `s` with another RX_EXP (R341). -/
def PreciseEntry (s t : State) : Prop :=
  ∃ c q, t = fatalEntry c { s with rxExp := q } ∧ (c ∉ lateCodes → q = s.rxExp)

/-- An error of DECODE or of SEQ_CHECK finds the state as it was. -/
theorem PreciseEntry.unchanged (c : FatalCode) (s : State) : PreciseEntry s (fatalEntry c s) :=
  ⟨c, s.rxExp, rfl, fun _ => rfl⟩

theorem PreciseEntry.late {c : FatalCode} (h : c ∈ lateCodes) (q : Byte) (s : State) :
    PreciseEntry s (fatalEntry c { s with rxExp := q }) :=
  ⟨c, q, rfl, fun early => absurd h early⟩

@[simp] theorem fatalEntry_rxExp (code : FatalCode) (s : State) : (fatalEntry code s).rxExp = s.rxExp := by
  rw [fatalEntry_eq]

/-- The fatal entry drops the ACK that the frame's acceptance owed (R340). -/
theorem fatalEntry_oweFrameAck (code : FatalCode) (f : Frame) (s : State) :
    fatalEntry code (oweFrameAck f s) = fatalEntry code s := by
  rw [oweFrameAck_eq, fatalEntry_eq, fatalEntry_eq]
  rfl

/-- The copy raises FRAGMENT_OVERFLOW only, before it has written anything (R193). -/
theorem appendData_raised {data : Bytes} {c : FatalCode} {s t : State} (h : appendData data s = .raised c t) :
    c = .fragmentOverflow ∧ t = s := by
  rcases appendData_cases data s with ⟨_, e⟩ | ⟨_, e⟩ | ⟨_, e⟩ <;> cases e.symm.trans h
  exact ⟨rfl, rfl⟩

/-- REASSEMBLE raises late codes only, and what it wrote before is lost in the fatal entry (R341). -/
theorem reassemble_raised {f : Frame} {c : FatalCode} {s t : State} (h : reassemble f s = .raised c t) :
    c ∈ lateCodes ∧ fatalEntry c t = fatalEntry c s := by
  rcases reassemble_cases f s with ⟨_, _, e⟩ | ⟨_, _, e⟩ | ⟨data, _, e⟩ | ⟨lo, hi, data, _, _, _, e⟩
  · cases e.symm.trans h
  · cases e.symm.trans h
    exact ⟨by decide, rfl⟩
  · obtain ⟨rfl, rfl⟩ := appendData_raised (e.symm.trans h)
    exact ⟨by decide, rfl⟩
  · obtain ⟨rfl, rfl⟩ := appendData_raised (e.symm.trans h)
    exact ⟨by decide, fatalEntry_startReassembly _ f _ s⟩

/-- A message that the copy completes has the anchor's class (R194). -/
theorem appendData_delivered_cls {data : Bytes} {m : Message} {s t : State} (h : appendData data s = .delivered m t) :
    m.cls = s.raClass := by
  rcases appendData_cases data s with ⟨_, e⟩ | ⟨_, e⟩ | ⟨_, e⟩ <;> cases e.symm.trans h
  rfl

/-- A Control message is one whole frame, since reassemblies are anchored by Data frames: REASSEMBLE leaves the state as
it is (R188, R195). -/
theorem reassemble_control {f : Frame} {m : Message} {s t : State} (anchor : s.raActive = true → s.raClass = .data)
    (whole : ¬(f.cls = .control ∧ fragFlag f.flags = true)) (h : reassemble f s = .delivered m t)
    (hm : m.cls = .control) : t = s := by
  rcases reassemble_cases f s with ⟨_, _, e⟩ | ⟨_, _, e⟩ | ⟨data, ha, e⟩ | ⟨lo, hi, data, hf, _, _, e⟩
  · cases e.symm.trans h
    rfl
  · cases e.symm.trans h
  · have active : s.raActive = true := by rcases ha with ⟨_, ha, _⟩ | ⟨_, ha, _⟩ <;> exact ha
    have cls := (appendData_delivered_cls (e.symm.trans h)).trans (anchor active)
    cases hm.symm.trans cls
  · have cls : m.cls = f.cls := appendData_delivered_cls (e.symm.trans h)
    exact absurd ⟨cls.symm.trans hm, hf⟩ whole

/-- CLASSIFY raises an error on a Control message only, MALFORMED_ACK (R233, R261). -/
theorem classify_error {m : Message} {c : FatalCode} {s : State} (h : classify m s = .error c) :
    m.cls = .control ∧ c = .malformedAck := by
  unfold classify at h
  split at h
  · rename_i isAck
    obtain ⟨control, _⟩ := isAck
    rcases ackResolve_cases h with ⟨_, e⟩ | ⟨_, _, _, _, _, _, e⟩ | ⟨_, _, _, _, _, _, e⟩ | ⟨_, _, _, _, e⟩ <;> cases e
    exact ⟨control, rfl⟩
  · cases h

/-- The end of the pipeline leaves a live block live, or it is MALFORMED_ACK's fatal entry (R300). -/
theorem finishMessage_fatal {m : Message} {s : State} (alive : s.fatal = false)
    (h : (finishMessage m s).fatal = true) :
    m.cls = .control ∧ finishMessage m s = fatalEntry .malformedAck s := by
  unfold finishMessage at h ⊢
  split at h
  · rename_i c e
    obtain ⟨control, rfl⟩ := classify_error e
    exact ⟨control, rfl⟩
  · rename_i t e
    rw [oweMessageAck_eq, classify_only e] at h
    cases alive.symm.trans h

/-- A frame that ends in the fatal state went there by a precise entry. -/
theorem acceptFrame_precise {f : Frame} {s t : State} (anchor : s.raActive = true → s.raClass = .data)
    (alive : s.fatal = false) (h : acceptFrame f s = .next t) (dead : t.fatal = true) : PreciseEntry s t := by
  rcases acceptFrame_cases f s with
    ⟨_, e⟩ | ⟨_, u, rfl, ⟨_, _, e⟩ | ⟨whole, ⟨c, v, hv, e⟩ | ⟨v, hv, e⟩ | ⟨m, v, hv, e⟩⟩⟩ <;> cases e.symm.trans h
  · exact .unchanged _ s
  · exact .late (by decide) _ s
  · obtain ⟨late, same⟩ := reassemble_raised hv
    exact same ▸ .late late _ s
  all_goals
    have live : (oweFrameAck f v).fatal = false := by
      rw [oweFrameAck_eq, reassemble_only (t := v) (by rw [hv]; rfl)]
      exact alive
  · cases live.symm.trans dead
  · obtain ⟨control, entered⟩ := finishMessage_fatal live dead
    have untouched := reassemble_control (s := { s with rxExp := nextExpected s f.seq }) anchor whole hv control
    rw [entered, fatalEntry_oweFrameAck, untouched]
    exact .late (by decide) _ s

/-- A notification that ends in the fatal state went there by a precise entry. -/
theorem notifyBytes_precise {b : Bytes} {s t : State} (anchor : s.raActive = true → s.raClass = .data)
    (alive : s.fatal = false) (h : notifyBytes b s = .next t) (dead : t.fatal = true) : PreciseEntry s t := by
  unfold notifyBytes afterDecode at h
  split at h
  · split at h
    · cases h
      exact .unchanged _ s
    · exact acceptFrame_precise anchor alive h dead
  · cases h
    cases alive.symm.trans dead

/-- Settles O46: every fatal end of the pipeline is the fatal entry on a state that differs from `s` in what the entry
overwrites and, after a late code, in RX_EXP (`notifyBytes_precise`); the entry keeps RX_EXP (`fatalEntry_rxExp`). -/
theorem fatalPrecision : Obligations.FatalPrecision := by
  intro b s t anchor alive h dead
  obtain ⟨c, q, rfl, early⟩ := notifyBytes_precise anchor alive h dead
  exact ⟨c, by rw [fatalEntry_rxExp], fun hc => (fatalEntry_rxExp c _).trans (early hc)⟩

/-! ## The fatal record -/

/-- From `s` to `t` FATAL and FATAL_CODE stay what they are, and no FATAL is emitted (R344). -/
structure KeepsRecord (s t : State) : Prop where
  fatal_kept : t.fatal = s.fatal
  code_kept : t.fatalCode = s.fatalCode
  events : ∃ evs, t.out = s.out ++ evs ∧ evs.countP isFatalEvent = 0

theorem KeepsRecord.trans {s t u : State} (h : KeepsRecord s t) (k : KeepsRecord t u) : KeepsRecord s u := by
  obtain ⟨hf, hc, evs, ho, hn⟩ := h
  obtain ⟨kf, kc, fvs, ko, kn⟩ := k
  exact ⟨kf.trans hf, kc.trans hc, evs ++ fvs, by rw [ko, ho, List.append_assoc], by rw [List.countP_append, hn, kn]⟩

/-- A change of other registers that emits nothing. -/
theorem KeepsRecord.of_silent {s t : State} (hf : t.fatal = s.fatal) (hc : t.fatalCode = s.fatalCode)
    (ho : t.out = s.out) : KeepsRecord s t :=
  ⟨hf, hc, [], by rw [ho, List.append_nil], rfl⟩

theorem KeepsRecord.refl (s : State) : KeepsRecord s s := .of_silent rfl rfl rfl

/-- One event that is no FATAL. -/
theorem KeepsRecord.emit {e : Bytes} (h : isFatalEvent e = false) (s : State) : KeepsRecord s (Machine.emit e s) :=
  ⟨rfl, rfl, [e], rfl, by rw [List.countP_singleton, h]; rfl⟩

/-! ### The rules of the transactions -/

theorem advance_keepsRecord (s : State) : KeepsRecord s (advance s) := by
  rw [advance_eq]
  refine ⟨rfl, rfl, _, rfl, ?_⟩
  split <;> rfl

theorem timerStep_keepsRecord (s : State) : KeepsRecord s (timerStep s) := by
  rcases timerStep_cases s with ⟨_, e⟩ | ⟨_, _, _, e⟩ | ⟨_, _, _, e⟩ <;> rw [e]
  · exact .refl s
  · exact .of_silent rfl rfl rfl
  · exact ⟨rfl, rfl, _, rfl, rfl⟩

theorem execReady_keepsRecord {a : ReadyArgs} {s t : State} (h : execReady a s = .next t) : KeepsRecord s t := by
  cases a with
  | badLength rest =>
    cases h
    exact .emit rfl s
  | capacity cap =>
    rcases ite_next h with ⟨_, rfl⟩ | ⟨_, h⟩
    · exact .emit rfl s
    · cases h
      exact ⟨rfl, rfl, _, rfl, rfl⟩

theorem execSend_keepsRecord {a : SendArgs} {s t : State} (h : execSend a s = .next t) : KeepsRecord s t := by
  rcases execSend_cases h with ⟨_, _, rfl⟩ | ⟨_, _, _, _, _, _, _, _, _, rfl⟩
  · exact .emit rfl s
  · exact .of_silent rfl rfl rfl

theorem execQuery_keepsRecord {a : NoArgs} {s t : State} (h : execQuery a s = .next t) : KeepsRecord s t := by
  cases a <;> cases h <;> exact .emit rfl s

/-- CLOSE keeps the record for inspection (R297, R343). -/
theorem execClose_keepsRecord {a : NoArgs} {s t : State} (h : execClose a s = .next t) : KeepsRecord s t := by
  cases a with
  | badLength rest =>
    cases h
    exact .emit rfl s
  | exact =>
    by_cases closed : s.sess = .closed
    · cases (if_pos closed).symm.trans h
      exact .emit rfl s
    · cases (execClose_tearsDown closed).symm.trans h
      refine ⟨rfl, rfl, _, by simp only [closedDown, List.append_assoc]; rfl, ?_⟩
      by_cases idle : s.txState = .idle <;> cases s.linkOpen <;> simp [idle, isFatalEvent]

/-- LINK_DOWN keeps the record for inspection (R310, R343). -/
theorem execLinkDown_keepsRecord {s t : State} (h : execLinkDown s = .next t) : KeepsRecord s t := by
  by_cases closed : s.sess = .closed
  · cases (if_pos closed).symm.trans h
    exact .refl s
  · cases (execLinkDown_tearsDown closed).symm.trans h
    refine ⟨rfl, rfl, _, rfl, ?_⟩
    split <;> rfl

theorem sendWriteDone_keepsRecord (st : Byte) (s : State) : KeepsRecord s (sendWriteDone st s) := by
  unfold sendWriteDone
  split
  · exact .refl s
  split
  · exact ⟨rfl, rfl, _, rfl, rfl⟩
  split
  · exact .of_silent rfl rfl rfl
  · exact KeepsRecord.trans (t := { s with pendAcked := false }) (.of_silent rfl rfl rfl) (advance_keepsRecord _)

theorem execWriteDone_keepsRecord {st : Byte} {s t : State} (h : execWriteDone st s = .next t) : KeepsRecord s t := by
  have freed : KeepsRecord s { s with portBusy := false } := .of_silent rfl rfl rfl
  unfold execWriteDone at h
  split at h
  · split at h <;> cases h
    · unfold ackWriteDone
      split
      · exact freed.trans (.emit rfl _)
      · exact freed
    · exact freed.trans (sendWriteDone_keepsRecord st _)
  · cases h
    exact .emit rfl s

/-! ### Every transaction and every step -/

/-- Only an RX_NOTIFY to a listening block raises a fatal error (R331, R344). -/
theorem exec_keepsRecord {b : Bytes} {i : Instr} {s t : State} (deaf : listening s = false)
    (hd : decode .input b = .ok i) (h : exec i s = .next t) : KeepsRecord s t := by
  have illegal {tag : Byte} (e : exec i s = .next (illegalCommand tag s)) : KeepsRecord s t := by
    cases e.symm.trans h
    exact .emit rfl s
  obtain ⟨tag, rest, rfl, hi⟩ := decodeInput_cases hd
  rcases hi with ⟨_, rfl⟩ | ⟨_, rfl⟩ | ⟨_, rfl⟩ | ⟨_, rfl⟩ | ⟨_, rfl⟩ | ⟨_, rfl⟩ | ⟨_, rfl⟩ | ⟨_, rfl⟩ | ⟨_, rfl⟩ |
    ⟨_, rfl⟩ | ⟨_, rfl⟩ | ⟨_, rfl⟩ | ⟨_, st, _, rfl⟩ | ⟨_, _, rfl⟩ | ⟨_, _, rfl⟩ | ⟨_, rfl⟩ | ⟨_, rfl⟩ | ⟨_, rfl⟩ |
    ⟨_, rfl⟩ | ⟨_, rfl⟩
  · exact illegal rfl
  · exact execReady_keepsRecord h
  · exact execSend_keepsRecord h
  · exact execClose_keepsRecord h
  · exact execQuery_keepsRecord h
  iterate 6 exact illegal rfl
  · cases (notifyBytes_ignored deaf rest).symm.trans h
    exact .emit rfl s
  · exact execWriteDone_keepsRecord h
  · cases h
    exact timerStep_keepsRecord s
  · exact execLinkDown_keepsRecord h
  all_goals cases h

/-- Settles O47: a fatal state does not listen, so the transaction's own rule keeps the record (`exec_keepsRecord`) and
sends no frame (`exec_writes_none`); the state after it is fatal too, and the arbiter does nothing (`arbiter_blocked`). -/
theorem fatalSticky : Obligations.FatalSticky := by
  intro s t dead h
  rcases step_cases h with ⟨_, rfl⟩ | ⟨b, u, i, v, hf, hd, he, ha⟩
  · exact ⟨dead, rfl, [], by rw [List.append_nil], rfl, rfl⟩
  obtain ⟨waiting, rfl⟩ := fetch_cases hf
  have deaf : listening { s with input := waiting } = false := not_listening_of (.inr dead)
  obtain ⟨fatal, code, evs, out, raised⟩ := exec_keepsRecord deaf hd he
  obtain ⟨fvs, out', unsent⟩ := exec_writes_none hd he
  have dead' : v.fatal = true := fatal.trans dead
  have still : arbiter v = .next v := arbiter_blocked (.inr (not_listening_of (.inr dead')))
  cases still.symm.trans ha
  have same : evs = fvs := List.append_cancel_left (out.symm.trans out')
  exact ⟨dead', code, evs, out, raised, List.countP_eq_zero.mpr (same ▸ unsent)⟩

end Sys2Proof.Machine
end

section
/-! PROOFS. No output depends on a buffer byte that was not written (R372): two states that differ in such bytes only go
through every rule and through the arbiter side by side. What a rule reads of a buffer was written by the current SEND or
the current reassembly: FRAG_EMIT reads the payload (R181), the last fragment's delivery what was copied (R194). -/

namespace Sys2Proof.Machine

/-! ## States with other buffers -/

/-- `s` with other buffers. -/
def rebuffered (txBuf raBuf : Buffer) (s : State) : State := { s with txBuf := txBuf, raBuf := raBuf }

theorem SameButUnread.exists_rebuffered {s u : State} (h : SameButUnread s u) :
    ∃ txBuf raBuf, u = rebuffered txBuf raBuf s :=
  ⟨u.txBuf, u.raBuf, h.registers⟩

/-- `t` has the buffers of `s`, and of their bytes it counts as written only those that `s` does. -/
structure CountsNoMore (s t : State) : Prop where
  kept : (t.txBuf, t.raBuf, t.txLen) = (s.txBuf, s.raBuf, s.txLen)
  sending : t.txState ≠ .idle → s.txState ≠ .idle
  reassembled : t.raCount = s.raCount ∨ t.raCount = 0

/-- A change of registers that counts no further byte as written. -/
theorem SameButUnread.update {txBuf raBuf : Buffer} {s t : State} (h : SameButUnread s (rebuffered txBuf raBuf s))
    (change : CountsNoMore s t) : SameButUnread t (rebuffered txBuf raBuf t) := by
  obtain ⟨kept, sending, reassembled⟩ := change
  obtain ⟨htx, hra, hlen⟩ : t.txBuf = s.txBuf ∧ t.raBuf = s.raBuf ∧ t.txLen = s.txLen := by
    simpa only [Prod.mk.injEq] using kept
  refine ⟨rfl, ?_, fun busy => ?_, ?_⟩
  · rw [htx, hra]
    exact h.canonical
  · rw [htx, hlen]
    exact h.sending (sending busy)
  · rw [hra]
    rcases reassembled with hcount | hcount <;> rw [hcount]
    · exact h.reassembled
    · exact fun a below => absurd below (Nat.not_lt_zero a)

/-- Writing the same bytes behind a part on which two buffers agree extends that part by them. -/
theorem readByte_writeBytes_agree {b c : Buffer} {n : Nat} {vs : Bytes} (hb : bufferWf b = true) (hc : bufferWf c = true)
    (fits : n + vs.length ≤ Config.bufferSize) (agree : ∀ a < n, readByte b a = readByte c a) :
    ∀ a < n + vs.length, readByte (writeBytes b n vs) a = readByte (writeBytes c n vs) a := by
  intro a below
  rw [readByte_writeBytes hb fits, readByte_writeBytes hc fits]
  by_cases written : n ≤ a
  · rw [if_pos ⟨written, below⟩, if_pos ⟨written, below⟩]
  · rw [if_neg (written ·.1), if_neg (written ·.1)]
    exact agree a (Nat.not_le.mp written)

/-! ## Results that correspond -/

/-- Two outcomes that correspond: next states that differ in unread bytes only, or the same stop. -/
inductive SameOutcome : Host.Outcome State Fault Refusal → Host.Outcome State Fault Refusal → Prop
  | next {t v : State} (h : SameButUnread t v) : SameOutcome (.next t) (.next v)
  | fault (r : Fault) : SameOutcome (.fault r) (.fault r)
  | refused (r : Refusal) : SameOutcome (.refused r) (.refused r)

/-- Two answers of a check that correspond: the same error, or states that differ in unread bytes only. -/
inductive SameAnswer : Except FatalCode State → Except FatalCode State → Prop
  | error (code : FatalCode) : SameAnswer (.error code) (.error code)
  | ok {t v : State} (h : SameButUnread t v) : SameAnswer (.ok t) (.ok v)

/-- Two answers of REASSEMBLE that correspond. -/
inductive SameReassembled : Reassembled → Reassembled → Prop
  | delivered (m : Message) {t v : State} (h : SameButUnread t v) : SameReassembled (.delivered m t) (.delivered m v)
  | awaiting {t v : State} (h : SameButUnread t v) : SameReassembled (.awaiting t) (.awaiting v)
  | raised (code : FatalCode) {t v : State} (h : SameButUnread t v) : SameReassembled (.raised code t) (.raised code v)

/-- A rule that checks no buffer takes the same branch on both sides. -/
theorem related_ite {α : Type} {R : α → α → Prop} {c : Prop} [Decidable c] {x y x' y' : α} (holds : c → R x x')
    (fails : ¬c → R y y') : R (if c then x else y) (if c then x' else y') := by
  by_cases hc : c
  · rw [if_pos hc, if_pos hc]
    exact holds hc
  · rw [if_neg hc, if_neg hc]
    exact fails hc

section
variable {s u : State}

/-! ## The shared operations -/

theorem SameButUnread.emit (h : SameButUnread s u) (e : Bytes) : SameButUnread (emit e s) (emit e u) := by
  obtain ⟨_, _, rfl⟩ := h.exists_rebuffered
  exact h.update ⟨rfl, id, .inl rfl⟩

theorem SameButUnread.fatalEntry (h : SameButUnread s u) (code : FatalCode) :
    SameButUnread (fatalEntry code s) (fatalEntry code u) := by
  obtain ⟨_, _, rfl⟩ := h.exists_rebuffered
  rw [fatalEntry_eq, fatalEntry_eq]
  exact h.update ⟨rfl, absurd rfl, .inr rfl⟩

/-- ADVANCE goes on with a SEND in progress, or ends it (R234). -/
theorem SameButUnread.advance (h : SameButUnread s u) (busy : s.txState ≠ .idle) :
    SameButUnread (advance s) (advance u) := by
  obtain ⟨_, _, rfl⟩ := h.exists_rebuffered
  rw [advance_eq, advance_eq]
  exact h.update ⟨rfl, fun _ => busy, .inl rfl⟩

theorem SameButUnread.timerStep (h : SameButUnread s u) : SameButUnread (timerStep s) (timerStep u) := by
  obtain ⟨_, _, rfl⟩ := h.exists_rebuffered
  unfold Machine.timerStep
  exact related_ite
    (fun _ => related_ite (fun _ => h.update ⟨rfl, absurd rfl, .inl rfl⟩) (fun _ => h.update ⟨rfl, id, .inl rfl⟩))
    (fun _ => h)

theorem SameButUnread.oweFrameAck (h : SameButUnread s u) (f : Frame) :
    SameButUnread (oweFrameAck f s) (oweFrameAck f u) := by
  obtain ⟨_, _, rfl⟩ := h.exists_rebuffered
  rw [oweFrameAck_eq, oweFrameAck_eq]
  exact h.update ⟨rfl, id, .inl rfl⟩

theorem SameButUnread.oweMessageAck (h : SameButUnread s u) (m : Message) :
    SameButUnread (oweMessageAck m s) (oweMessageAck m u) := by
  obtain ⟨_, _, rfl⟩ := h.exists_rebuffered
  rw [oweMessageAck_eq, oweMessageAck_eq]
  exact h.update ⟨rfl, id, .inl rfl⟩

/-! ## REASSEMBLE -/

/-- The copy extends what both buffers hold of the message, and what is delivered at the target is read from there
(R192, R194). -/
theorem appendData_same (h : SameButUnread s u) (data : Bytes) :
    SameReassembled (appendData data s) (appendData data u) := by
  obtain ⟨txBuf, raBuf, rfl⟩ := h.exists_rebuffered
  obtain ⟨hstx, hsra, hutx, hura⟩ := h.canonical
  rcases Nat.lt_trichotomy (s.raCount.toNat + data.length) s.raTarget.toNat with below | reaches | beyond
  · rw [appendData_below below, appendData_below (s := rebuffered txBuf raBuf s) below]
    have fits := copy_inside below.le
    refine .awaiting ⟨rfl, ⟨hstx, writeBytes_wf hsra fits, hutx, writeBytes_wf hura fits⟩, h.sending, fun a counted => ?_⟩
    refine readByte_writeBytes_agree hsra hura fits h.reassembled a (counted.trans_le ?_)
    exact (BitVec.toNat_ofNat ..).trans_le (Nat.mod_le ..)
  · have held : readBytes s.raBuf 0 s.raCount.toNat = readBytes raBuf 0 s.raCount.toNat :=
      readBytes_congr fun a _ below => h.reassembled a (by omega)
    have fits := copy_inside reaches.le
    rw [appendData_reaches hsra reaches, appendData_reaches (s := rebuffered txBuf raBuf s) hura reaches, held]
    exact .delivered _ ⟨rfl, ⟨hstx, writeBytes_wf hsra fits, hutx, writeBytes_wf hura fits⟩, h.sending,
      fun a counted => absurd counted (Nat.not_lt_zero a)⟩
  · rw [appendData_beyond beyond, appendData_beyond (s := rebuffered txBuf raBuf s) beyond]
    exact .raised _ h

/-- A first fragment counts no byte before its own (R191). -/
theorem SameButUnread.startReassembly (h : SameButUnread s u) (f : Frame) (target : Half) :
    SameButUnread (startReassembly f target s) (startReassembly f target u) := by
  obtain ⟨_, _, rfl⟩ := h.exists_rebuffered
  exact h.update ⟨rfl, id, .inr rfl⟩

theorem reassemble_same (h : SameButUnread s u) (f : Frame) : SameReassembled (reassemble f s) (reassemble f u) := by
  have active : u.raActive = s.raActive := by rw [h.registers]
  obtain ⟨cls, subtype, flags, seq, payload⟩ := f
  unfold reassemble
  rw [active]
  refine related_ite (fun _ => ?_) fun _ =>
    related_ite (fun _ => appendData_same h payload) (fun _ => .delivered _ h)
  match payload with
  | [] | [_] => exact .raised _ h
  | lo :: hi :: data =>
    exact related_ite (fun _ => appendData_same h data) (fun _ => appendData_same (h.startReassembly _ (rd16 lo hi)) data)

/-! ## The inbound pipeline -/

theorem ackResolve_same (h : SameButUnread s u) (payload : Bytes) :
    SameAnswer (ackResolve payload s) (ackResolve payload u) := by
  obtain ⟨_, _, rfl⟩ := h.exists_rebuffered
  cases payload with
  | nil => exact .error _
  | cons a more =>
    refine related_ite (fun _ => related_ite (fun waits => .ok ?_) fun _ => .ok ?_) fun _ => .ok (h.emit _)
    · have busy : s.txState ≠ .idle := by simp [show s.txState = .ackWait from waits]
      have resolved : CountsNoMore s { s with pendValid := false, pendRemain := 0 } := ⟨rfl, id, .inl rfl⟩
      exact (h.update resolved).advance busy
    · exact h.update ⟨rfl, id, .inl rfl⟩

theorem classify_same (h : SameButUnread s u) (m : Message) : SameAnswer (classify m s) (classify m u) :=
  related_ite (fun _ => ackResolve_same h m.payload) (fun _ => .ok (h.emit _))

theorem SameButUnread.finishMessage (h : SameButUnread s u) (m : Message) :
    SameButUnread (finishMessage m s) (finishMessage m u) := by
  have classified := classify_same h m
  unfold Machine.finishMessage
  generalize classify m s = x, classify m u = y at classified
  cases classified with
  | error code => exact h.fatalEntry code
  | ok h => exact h.oweMessageAck m

theorem afterReassembly_same {x y : Reassembled} (h : SameReassembled x y) (f : Frame) :
    SameOutcome (afterReassembly f x) (afterReassembly f y) := by
  cases h with
  | delivered m h => exact .next ((h.oweFrameAck f).finishMessage m)
  | awaiting h => exact .next (h.oweFrameAck f)
  | raised code h => exact .next (h.fatalEntry code)

theorem seqCheck_same (h : SameButUnread s u) (seq : Byte) : SameAnswer (seqCheck seq s) (seqCheck seq u) := by
  obtain ⟨_, _, rfl⟩ := h.exists_rebuffered
  exact related_ite (fun _ => .error _) (fun _ => .ok (h.update ⟨rfl, id, .inl rfl⟩))

theorem acceptFrame_same (h : SameButUnread s u) (f : Frame) : SameOutcome (acceptFrame f s) (acceptFrame f u) := by
  have checked := seqCheck_same h f.seq
  unfold acceptFrame
  generalize seqCheck f.seq s = x, seqCheck f.seq u = y at checked
  cases checked with
  | error code => exact .next (h.fatalEntry code)
  | ok h =>
    exact related_ite (fun _ => .next (h.fatalEntry _)) (fun _ => afterReassembly_same (reassemble_same h f) f)

theorem afterDecode_same (h : SameButUnread s u) (r : Except FatalCode Frame) :
    SameOutcome (afterDecode r s) (afterDecode r u) := by
  cases r with
  | error code => exact .next (h.fatalEntry code)
  | ok f => exact acceptFrame_same h f

theorem SameButUnread.listening_eq (h : SameButUnread s u) : listening u = listening s := by
  rw [h.registers]
  rfl

theorem notifyFrame_same (h : SameButUnread s u) (p : FrameParts) :
    SameOutcome (notifyFrame p s) (notifyFrame p u) := by
  unfold notifyFrame
  rw [h.listening_eq]
  exact related_ite (fun _ => afterDecode_same h _) (fun _ => .next (h.emit _))

theorem notifyBytes_same (h : SameButUnread s u) (b : Bytes) : SameOutcome (notifyBytes b s) (notifyBytes b u) := by
  unfold notifyBytes
  rw [h.listening_eq]
  exact related_ite (fun _ => afterDecode_same h _) (fun _ => .next (h.emit _))

/-! ## The commands -/

theorem execReady_same (h : SameButUnread s u) (a : ReadyArgs) : SameOutcome (execReady a s) (execReady a u) := by
  obtain ⟨_, _, rfl⟩ := h.exists_rebuffered
  cases a with
  | badLength rest => exact .next (h.emit _)
  | capacity cap => exact related_ite (fun _ => .next (h.emit _)) (fun _ => .next (h.update ⟨rfl, id, .inl rfl⟩))

/-- An accepted SEND writes every byte of TX_BUF that it counts (R294). -/
theorem SameButUnread.sendLatched (h : SameButUnread s u) (cls : FrameClass) (b0 opts : Byte) (timeout : Half)
    {p : Bytes} (fits : 0 + p.length ≤ Config.bufferSize) :
    SameButUnread (sendLatched cls b0 opts timeout p s) (sendLatched cls b0 opts timeout p u) := by
  obtain ⟨_, _, rfl⟩ := h.exists_rebuffered
  obtain ⟨hstx, hsra, hutx, hura⟩ := h.canonical
  refine ⟨rfl, ⟨writeBytes_wf hstx fits, hsra, writeBytes_wf hutx fits, hura⟩, fun _ a counted => ?_, h.reassembled⟩
  refine readByte_writeBytes_agree hstx hutx fits (fun a below => absurd below (Nat.not_lt_zero a)) a ?_
  rw [Nat.zero_add]
  exact counted.trans_le ((BitVec.toNat_ofNat ..).trans_le (Nat.mod_le ..))

theorem execSend_same (h : SameButUnread s u) (a : SendArgs) : SameOutcome (execSend a s) (execSend a u) := by
  obtain ⟨txBuf, raBuf, rfl⟩ := h.exists_rebuffered
  cases a with
  | badLength rest => exact .next (h.emit _)
  | message b0 opts timeout payload =>
    refine related_ite (fun _ => .next (h.emit _)) fun malformed => ?_
    refine related_ite (fun _ => .next (h.emit _)) fun _ => ?_
    refine related_ite (fun _ => .next (h.emit _)) fun _ => ?_
    refine related_ite (fun _ => .next (h.emit _)) fun _ => ?_
    have fits := length_le_of_wellFormed (Bool.eq_false_iff.mpr malformed)
    cases frameClass (classField b0) with
    | none => exact .next (h.emit _)
    | some cls =>
      refine related_ite (fun _ => .next (h.emit _)) fun _ => ?_
      refine related_ite (fun _ => .next (h.emit _)) fun _ => ?_
      rw [memWrite_inside _ fits, memWrite_inside _ fits]
      exact .next (h.sendLatched cls b0 opts timeout fits)

theorem execClose_same (h : SameButUnread s u) (a : NoArgs) : SameOutcome (execClose a s) (execClose a u) := by
  obtain ⟨txBuf, raBuf, rfl⟩ := h.exists_rebuffered
  cases a with
  | badLength rest => exact .next (h.emit _)
  | exact =>
    refine related_ite (fun _ => .next (h.emit _)) fun _ => ?_
    rw [releaseLink_eq, releaseLink_eq, failSend_eq, failSend_eq]
    exact .next (h.update ⟨rfl, absurd rfl, .inr rfl⟩)

theorem execQuery_same (h : SameButUnread s u) (a : NoArgs) : SameOutcome (execQuery a s) (execQuery a u) := by
  obtain ⟨_, _, rfl⟩ := h.exists_rebuffered
  cases a <;> exact .next (h.emit _)

/-! ## The other events -/

theorem SameButUnread.sendWriteDone (h : SameButUnread s u) (st : Byte) :
    SameButUnread (sendWriteDone st s) (sendWriteDone st u) := by
  obtain ⟨_, _, rfl⟩ := h.exists_rebuffered
  refine related_ite (fun _ => h) fun waits => ?_
  have busy : s.txState ≠ .idle := by simp [show s.txState = .writeWait from not_not.mp waits]
  refine related_ite (fun _ => h.update ⟨rfl, absurd rfl, .inl rfl⟩) fun _ => ?_
  refine related_ite (fun _ => h.update ⟨rfl, fun _ => busy, .inl rfl⟩) fun _ => ?_
  have settled : CountsNoMore s { s with pendAcked := false } := ⟨rfl, id, .inl rfl⟩
  exact (h.update settled).advance busy

theorem SameButUnread.ackWriteDone (h : SameButUnread s u) (st : Byte) :
    SameButUnread (ackWriteDone st s) (ackWriteDone st u) :=
  related_ite (fun _ => h.emit _) (fun _ => h)

theorem execWriteDone_same (h : SameButUnread s u) (st : Byte) :
    SameOutcome (execWriteDone st s) (execWriteDone st u) := by
  obtain ⟨txBuf, raBuf, rfl⟩ := h.exists_rebuffered
  refine related_ite (fun _ => ?_) fun _ => .next (h.emit _)
  have freed (owner : PortOwner) : CountsNoMore s { s with portBusy := false, portOwner := owner } :=
    ⟨rfl, id, .inl rfl⟩
  rw [show (rebuffered txBuf raBuf s).portOwner = s.portOwner from rfl]
  cases s.portOwner with
  | send => exact .next ((h.update (freed .send)).sendWriteDone st)
  | autoAck => exact .next ((h.update (freed .autoAck)).ackWriteDone st)

theorem execLinkDown_same (h : SameButUnread s u) : SameOutcome (execLinkDown s) (execLinkDown u) := by
  obtain ⟨_, _, rfl⟩ := h.exists_rebuffered
  refine related_ite (fun _ => .next h) fun _ => ?_
  rw [failSend_eq, failSend_eq]
  exact .next (h.update ⟨rfl, absurd rfl, .inr rfl⟩)

/-! ## Every transaction and every step -/

/-- A frame row is a notification (`exec_frame`), a reserved tag is refused, the other rows are run by name. -/
theorem exec_same (h : SameButUnread s u) (i : Instr) : SameOutcome (exec i s) (exec i u) := by
  cases row : i.frameParts with
  | some p =>
    rw [exec_frame row, exec_frame row]
    exact notifyFrame_same h p
  | none =>
    cases i with
    | ready a => exact execReady_same h a
    | send a => exact execSend_same h a
    | close a => exact execClose_same h a
    | query a => exact execQuery_same h a
    | rxNotify b => exact notifyBytes_same h b
    | writeDone st => exact execWriteDone_same h st
    | tick => exact .next h.timerStep
    | linkDown => exact execLinkDown_same h
    | cmdIllegal00 | cmdIllegal05 | cmdIllegal06 | cmdIllegal08 | cmdIllegal10 | cmdIllegal20 | cmdIllegal40
    | txWrite | cmdDone | deliver | log | fatal | release | queryResp => exact .next (h.emit _)
    | inputReserved84 | inputReserved88 | inputReserved90 | inputReservedA0 | inputReservedC0 => exact .refused _
    | _ => cases row

/-- The next frame of a SEND in progress carries bytes of its own payload only (R181, R245). -/
theorem SameButUnread.issued (h : SameButUnread s u) (busy : s.txState ≠ .idle) :
    SameButUnread (issued s) (issued u) := by
  obtain ⟨txBuf, raBuf, rfl⟩ := h.exists_rebuffered
  have payload : readBytes txBuf 0 s.txLen.toNat = readBytes s.txBuf 0 s.txLen.toNat :=
    readBytes_congr fun a _ below => (h.sending busy a (by omega)).symm
  have fragment : currentFragment (rebuffered txBuf raBuf s) = currentFragment s :=
    congrArg (nextFragment s.txLen.toNat s.txOff.toNat (capEff s)) payload
  have same : Machine.issued (rebuffered txBuf raBuf s) = rebuffered txBuf raBuf (Machine.issued s) := by
    unfold Machine.issued
    rw [fragment]
    rfl
  rw [same]
  exact h.update ⟨rfl, fun _ => busy, .inl rfl⟩

theorem SameButUnread.issueAck (h : SameButUnread s u) (a : Byte) (rest : Bytes) :
    SameButUnread (issueAck a rest s) (issueAck a rest u) := by
  obtain ⟨_, _, rfl⟩ := h.exists_rebuffered
  exact h.update ⟨rfl, id, .inl rfl⟩

theorem arbiter_same (h : SameButUnread s u) : SameOutcome (arbiter s) (arbiter u) := by
  obtain ⟨txBuf, raBuf, rfl⟩ := h.exists_rebuffered
  refine related_ite (fun _ => .next h) fun _ => ?_
  rw [show (rebuffered txBuf raBuf s).ackq = s.ackq from rfl]
  cases s.ackq with
  | cons a rest => exact .next (h.issueAck a rest)
  | nil =>
    refine related_ite (fun issues => ?_) fun _ => .next h
    have busy : s.txState ≠ .idle := by simp [show s.txState = .issue from issues]
    rw [issueSend_eq, issueSend_eq]
    exact .next (h.issued busy)

theorem thenArbiter_same {x y : Host.Outcome State Fault Refusal} (h : SameOutcome x y) :
    SameOutcome (thenArbiter x) (thenArbiter y) := by
  cases h with
  | next h => exact arbiter_same h
  | fault r => exact .fault r
  | refused r => exact .refused r

theorem transact_same (h : SameButUnread s u) (t : Bytes) : SameOutcome (transact t s) (transact t u) := by
  unfold transact
  cases decode .input t with
  | error r => exact .refused _
  | ok i => exact thenArbiter_same (exec_same h i)

theorem step_same (h : SameButUnread s u) : SameOutcome (step s) (step u) := by
  obtain ⟨txBuf, raBuf, rfl⟩ := h.exists_rebuffered
  cases taken : takeEnabled (!rxEnabled s) s.input with
  | none =>
    rw [step_eq_idle taken, step_eq_idle (s := rebuffered txBuf raBuf s) taken]
    exact .next h
  | some r =>
    rw [step_eq_transact taken, step_eq_transact (s := rebuffered txBuf raBuf s) taken]
    have rest : CountsNoMore s { s with input := r.2 } := ⟨rfl, id, .inl rfl⟩
    exact transact_same (h.update rest) r.1

end

/-- Settles O55: the two steps correspond (`step_same`), and states that differ in unread bytes only have emitted the
same events. -/
theorem bufferDrawsUnobservable : Obligations.BufferDrawsUnobservable := by
  intro s u h
  have same := step_same h
  generalize step u = o at same
  refine ⟨fun t stepped => ?_, fun r stepped => ?_⟩ <;> rw [stepped] at same
  · cases same with
    | next h => exact ⟨_, rfl, h, by rw [h.registers]⟩
  · cases same with
    | refused => rfl

end Sys2Proof.Machine
end
